-- ==== Sys2Proof/Word.lean ====
section
/-! DEFINITION. The bit-vector types of the block: bytes of the streams and buffers, 16-bit header fields, 32-bit registers
and bus words, 18-bit bus addresses (00_scope.md R8, R9; 20_memory.md R70, R72). -/

namespace Sys2Proof

/-- One byte of a stream, a buffer or a frame. -/
abbrev Byte := BitVec 8

/-- A 16-bit unsigned field: a frame header field, a list element, a code unit of a string (R8, R203). -/
abbrev Half := BitVec 16

/-- A 32-bit register, bus word, checksum or command word (R22, R72, R100). -/
abbrev Word := BitVec 32

/-- A host bus address: the block decodes `addr[17:0]` and nothing above it (R70). -/
abbrev Addr := BitVec 18

/-- A byte sequence, first byte first on the wire and at the lowest index (R9, R10). -/
abbrev Bytes := List Byte

end Sys2Proof
end

