-- ==== Sys2Proof/Config.lean ====
section
/-! DEFINITION. What one build of the block fixes (00_scope.md R6) and the one free value the spec leaves: the bytes PAY and DEC
hold after power-on (70_reset_and_hazards.md R382). -/

namespace Sys2Proof

/-- The OPEN parameters of a build (R6). State carries them as a field no step changes, so a statement about every
state is a statement about every build. -/
structure Build where
  /-- `MTU_MAX`: the largest frame size the block accepts, in bytes. -/
  mtuMax : Nat
  /-- `LIST_MAX`: the most entries of a BURST or REPORT list that the parser accepts. -/
  listMax : Nat
  /-- `EVQ_DEPTH`: the entries of the event queue. -/
  evqDepth : Nat
  /-- `TX_FIFO_DEPTH`: the bytes of the transmit FIFO. -/
  txFifoDepth : Nat
deriving DecidableEq, Repr

namespace Build

/-- The ranges R6 gives the OPEN parameters: `14 <= MTU_MAX <= 65535`, `1 <= LIST_MAX <= 1008`, `1 <= EVQ_DEPTH <= 255`,
`MTU_MAX <= TX_FIFO_DEPTH <= 2^24`. -/
abbrev Legal (p : Build) : Prop :=
  (14 ≤ p.mtuMax ∧ p.mtuMax ≤ 65535) ∧ (1 ≤ p.listMax ∧ p.listMax ≤ 1008) ∧
    (1 ≤ p.evqDepth ∧ p.evqDepth ≤ 255) ∧ (p.mtuMax ≤ p.txFifoDepth ∧ p.txFifoDepth ≤ 2 ^ 24)

/-- `PAY_BUF_SIZE = MTU_MAX - 14` (R6). -/
def payBufSize (p : Build) : Nat := p.mtuMax - 14

/-- `DEC_BUF_SIZE = MTU_MAX` (R6). -/
def decBufSize (p : Build) : Nat := p.mtuMax

/-- `BUF_PHYS = MTU_MAX * 150` (R6): the StreamBuffer cap at the largest legal MTU. -/
def bufPhys (p : Build) : Nat := p.mtuMax * 150

/-- The build of 95_test_vectors.md. DESIGN CHOICE (log entry 1): unsafe; R6 leaves the four values open. -/
def vectors : Build := ⟨256, 64, 4, 512⟩

end Build

namespace Config

/-- The byte the RAM cell at a bus address of the PAY or DEC window holds after power-on, until the host overwrites it:
a free draw per byte that nothing can evaluate (R382; 93_implementation_defined.md "any value"). Log entry 2. -/
opaque powerOnByte : Nat → Byte

end Config

end Sys2Proof
end

