-- ==== Sys2Proof/Syntax.lean ====
section
/-! DEFINITION. The operations of the block, one constructor per row of spec/opcode_table.json, in the table's order: the
eleven commands and the illegal words (30_encoding.md R101, R102), the bus writes and the bus read (45_host_commands.md
R300, R301), the four agent steps (00_scope.md R12). -/

namespace Sys2Proof

/-- One operation of the block.
A command constructor is the ENGINE's completion of that command while it is the pending one (R303).
A `wr…` constructor is one host bus write and carries the whole 32-bit data word; `wrPay` and `wrDec` carry the word index
inside their 64 KiB window, `wrOther` and `rdAny` the word index `addr[17:2]` in the bus space (R72).
The last four are the steps of RXPORT, TXPORT, ENGINE and DEMUX. -/
inductive Instr where
  | nop
  | cntClear
  | bufFlush
  | evqFlush
  | txFlush
  | crcInit
  | crcByte (imm8 : Byte)
  | crcBuf
  | frameEncode
  | frameDecode
  | lineParse
  | illegal (w : Word)
  | wrCmd (d : Word)
  | wrCtrl (d : Word)
  | wrStatus (d : Word)
  | wrIrqEn (d : Word)
  | wrMtu (d : Word)
  | wrTxRunId (d : Word)
  | wrTxSeq (d : Word)
  | wrTxTotal (d : Word)
  | wrTxPlen (d : Word)
  | wrDecLen (d : Word)
  | wrTxData (d : Word)
  | wrEvqPop (d : Word)
  | wrPay (k : BitVec 14) (d : Word)
  | wrDec (k : BitVec 14) (d : Word)
  | wrOther (k : BitVec 16) (d : Word)
  | rdAny (k : BitVec 16)
  | rxDeliver (b : Byte)
  | txTake
  | engineComplete
  | demuxStep
deriving DecidableEq, Repr

end Sys2Proof
end

