-- ==== Sys2Proof/WellFormed.lean ====
section
/-! DEFINITION. Which terms of Instr stand for an operation of the table: the two catch-all rows take only what no other row
takes (30_encoding.md R102; 45_host_commands.md R300). Every other constructor is well-formed at every operand. -/

namespace Sys2Proof

/-- `w` is a word of one of the eleven commands of R101: a C0 word with its upper 24 bits zero, or CRC_BYTE's C1 word. -/
def isCommandWord (w : Word) : Bool :=
  [0x00#32, 0x01#32, 0x02#32, 0x03#32, 0x04#32, 0x10#32, 0x12#32, 0x20#32, 0x21#32, 0x22#32].contains w ||
    w &&& 0xFFFF00FF#32 == 0x11#32

/-- The byte offsets of the registers that have a write rule of their own in R300. -/
def writeRuleOffsets : List Nat :=
  [0x020, 0x024, 0x028, 0x02C, 0x040, 0x044, 0x048, 0x04C, 0x050, 0x054, 0x080, 0x084]

/-- The word at word index `k` is taken by a write rule of R300 other than its last sentence's: a register above, or a word
of the PAY or DEC window (20_memory.md R71). -/
def hasWriteRule (k : BitVec 16) : Bool :=
  writeRuleOffsets.contains (4 * k.toNat) || (0x10000 ≤ 4 * k.toNat && 4 * k.toNat < 0x30000)

/-- Well-formedness. -/
def Instr.wf : Instr → Bool
  | .illegal w => !isCommandWord w
  | .wrOther k _ => !hasWriteRule k
  | .nop | .cntClear | .bufFlush | .evqFlush | .txFlush | .crcInit | .crcByte _ | .crcBuf | .frameEncode | .frameDecode
  | .lineParse | .wrCmd _ | .wrCtrl _ | .wrStatus _ | .wrIrqEn _ | .wrMtu _ | .wrTxRunId _ | .wrTxSeq _ | .wrTxTotal _
  | .wrTxPlen _ | .wrDecLen _ | .wrTxData _ | .wrEvqPop _ | .wrPay _ _ | .wrDec _ _ | .rdAny _ | .rxDeliver _ | .txTake
  | .engineComplete | .demuxStep => true

end Sys2Proof
end

