-- ==== Sys2Proof/Decode.lean ====
section
/-! DEFINITION. The forms an operation takes at the block's edge, the register map, the decoder of each form and the encoder.
The forms: a command word (30_encoding.md R100-R102), a bus access (R104, 20_memory.md R70-R72), a port or agent step (the
table's "none: an internal or port step"). Every form decodes: the illegal command word and the bus write that nothing takes
have rows of their own. -/

namespace Sys2Proof

/-- What the ENGINE may find in PEND: one of the eleven commands, or a word that matches no row (R101, R102). -/
inductive Command where
  | nop | cntClear | bufFlush | evqFlush | txFlush | crcInit
  | crcByte (imm8 : Byte)
  | crcBuf | frameEncode | frameDecode | lineParse
  | illegal (w : Word)
deriving DecidableEq, Repr

/-- One row of R101's table: a word `w` selects the row when `(w & mask) == pattern`. -/
structure CommandRow where
  pattern : Word
  mask : Word
  command : Word → Command

/-- `IMM8 = w[15:8]` (R103). -/
def imm8 (w : Word) : Byte := w.extractLsb' 8 8

/-- `OPC = w[7:0]` (R100). -/
def opc (w : Word) : Byte := w.extractLsb' 0 8

/-- R101's table, in its order. -/
def commandRows : List CommandRow :=
  [⟨0x00000000, 0xFFFFFFFF, fun _ => .nop⟩,
   ⟨0x00000001, 0xFFFFFFFF, fun _ => .cntClear⟩,
   ⟨0x00000002, 0xFFFFFFFF, fun _ => .bufFlush⟩,
   ⟨0x00000003, 0xFFFFFFFF, fun _ => .evqFlush⟩,
   ⟨0x00000004, 0xFFFFFFFF, fun _ => .txFlush⟩,
   ⟨0x00000010, 0xFFFFFFFF, fun _ => .crcInit⟩,
   ⟨0x00000011, 0xFFFF00FF, fun w => .crcByte (imm8 w)⟩,
   ⟨0x00000012, 0xFFFFFFFF, fun _ => .crcBuf⟩,
   ⟨0x00000020, 0xFFFFFFFF, fun _ => .frameEncode⟩,
   ⟨0x00000021, 0xFFFFFFFF, fun _ => .frameDecode⟩,
   ⟨0x00000022, 0xFFFFFFFF, fun _ => .lineParse⟩]

/-- A word selects a row (R101). -/
def CommandRow.selects (r : CommandRow) (w : Word) : Bool := w &&& r.mask == r.pattern

/-- The command of a word: the row it selects, else illegal (R101, R102). -/
def decodeCommand (w : Word) : Command :=
  match commandRows.find? (·.selects w) with
  | some r => r.command w
  | none => .illegal w

/-- The operation that completes a command. -/
def Command.instr : Command → Instr
  | .nop => .nop
  | .cntClear => .cntClear
  | .bufFlush => .bufFlush
  | .evqFlush => .evqFlush
  | .txFlush => .txFlush
  | .crcInit => .crcInit
  | .crcByte b => .crcByte b
  | .crcBuf => .crcBuf
  | .frameEncode => .frameEncode
  | .frameDecode => .frameDecode
  | .lineParse => .lineParse
  | .illegal w => .illegal w

/-- The command word of a command (R100, R101). -/
def Command.word : Command → Word
  | .nop => 0x00000000
  | .cntClear => 0x00000001
  | .bufFlush => 0x00000002
  | .evqFlush => 0x00000003
  | .txFlush => 0x00000004
  | .crcInit => 0x00000010
  | .crcByte b => (0#16 ++ b ++ 0x11#8 : BitVec 32)
  | .crcBuf => 0x00000012
  | .frameEncode => 0x00000020
  | .frameDecode => 0x00000021
  | .lineParse => 0x00000022
  | .illegal w => w

/-- The registers of the register map (10_state.md R23). -/
inductive Reg where
  | id | version | param0 | param1 | param2 | ctrl | status | irqEn | cmd | cmdResult | mtu | txRunId | txSeq | txTotal
  | txPlen | decLen | encCrc | crcValue | crcState | bufLevel | bufCap | evqLevel | txLevel | txData | evqPop | cntFrames
  | cntControl | cntFrameErr | cntLineErr | cntResync | cntOverflow
deriving DecidableEq, Repr

/-- The register map of R23: byte offset in the register page, register. -/
def regMap : List (Nat × Reg) :=
  [(0x000, .id), (0x004, .version), (0x008, .param0), (0x00C, .param1), (0x010, .param2),
   (0x020, .ctrl), (0x024, .status), (0x028, .irqEn), (0x02C, .cmd), (0x030, .cmdResult),
   (0x040, .mtu), (0x044, .txRunId), (0x048, .txSeq), (0x04C, .txTotal), (0x050, .txPlen),
   (0x054, .decLen), (0x058, .encCrc), (0x060, .crcValue), (0x064, .crcState), (0x070, .bufLevel),
   (0x074, .bufCap), (0x078, .evqLevel), (0x07C, .txLevel), (0x080, .txData), (0x084, .evqPop)] ++
  [(0x0A0, .cntFrames), (0x0A4, .cntControl), (0x0A8, .cntFrameErr), (0x0AC, .cntLineErr),
   (0x0B0, .cntResync), (0x0B4, .cntOverflow)]

/-- The register at a byte offset of the register page; none at a reserved offset (R26). -/
def regAt (offset : Nat) : Option Reg := (regMap.find? (·.1 == offset)).map (·.2)

/-- What a bus access at a byte address reaches (20_memory.md R71). The offsets are in bytes from the region's base. -/
inductive Region where
  | reg (offset : Nat)
  | evt (offset : Nat)
  | res (offset : Nat)
  | pay (offset : Nat)
  | dec (offset : Nat)
  | reserved
deriving DecidableEq, Repr

/-- The address map of R71. -/
def regionOf (a : Nat) : Region :=
  if a < 0x01000 then .reg a
  else if a < 0x02000 then .evt (a - 0x01000)
  else if a < 0x03000 then .res (a - 0x02000)
  else if a < 0x10000 then .reserved
  else if a < 0x20000 then .pay (a - 0x10000)
  else if a < 0x30000 then .dec (a - 0x20000)
  else .reserved

/-- The word index of an address: bits [1:0] are ignored (R72, R300). -/
def wordIndex (addr : Addr) : BitVec 16 := addr.extractLsb' 2 16

/-- The bus write at word index `k` (R300): a register with a write rule, a window word, or a write that is ignored. -/
def decodeWrite (k : BitVec 16) (d : Word) : Instr :=
  match regionOf (4 * k.toNat) with
  | .reg off =>
    match regAt off with
    | some .ctrl => .wrCtrl d
    | some .status => .wrStatus d
    | some .irqEn => .wrIrqEn d
    | some .cmd => .wrCmd d
    | some .mtu => .wrMtu d
    | some .txRunId => .wrTxRunId d
    | some .txSeq => .wrTxSeq d
    | some .txTotal => .wrTxTotal d
    | some .txPlen => .wrTxPlen d
    | some .decLen => .wrDecLen d
    | some .txData => .wrTxData d
    | some .evqPop => .wrEvqPop d
    | some _ => .wrOther k d
    | none => .wrOther k d
  | .pay off => .wrPay (BitVec.ofNat 14 (off / 4)) d
  | .dec off => .wrDec (BitVec.ofNat 14 (off / 4)) d
  | .evt _ => .wrOther k d
  | .res _ => .wrOther k d
  | .reserved => .wrOther k d

/-- One operation as the block meets it at its edge.
`command w`: the ENGINE's step for the pending word `w`.
`busWrite`, `busRead`: one host access, direction, 18-bit byte address and, for a write, 32-bit data (R104).
`rxByte b`: the transport delivers `b` (R251); `txStep`: it takes a byte (R309); `engineStep`, `demuxStep`: the ENGINE and
DEMUX agents are given a step (R303, R256). -/
inductive Code where
  | command (w : Word)
  | busWrite (addr : Addr) (d : Word)
  | busRead (addr : Addr)
  | rxByte (b : Byte)
  | txStep
  | engineStep
  | demuxStep
deriving DecidableEq, Repr

/-- The decoder, total on every form. -/
def decode : Code → Instr
  | .command w => (decodeCommand w).instr
  | .busWrite addr d => decodeWrite (wordIndex addr) d
  | .busRead addr => .rdAny (wordIndex addr)
  | .rxByte b => .rxDeliver b
  | .txStep => .txTake
  | .engineStep => .engineComplete
  | .demuxStep => .demuxStep

/-- The form an opcode-table word stands for, its bits numbered as the table numbers them (log entry 3).
The table's command rows have 32 bits and its ILLEGAL row 8; its bus-write rows have the 18 address bits, 24 with padding,
and no data bits (the data is 0). Its WR_CTRL row lays the data bits SRST and DEMUX_EN over the same 32 bits as the address:
such a word is the CTRL write when no command row takes it and only SRST, DEMUX_EN and CTRL's address are set. -/
def codeOfTableWord (nbits w : Nat) : Option Code :=
  if nbits = 24 then some (.busWrite (BitVec.ofNat 18 w) 0)
  else if nbits = 8 ∨ nbits = 16 then some (.command (BitVec.ofNat 32 (w % 2 ^ nbits)))
  else if nbits = 32 then
    let v := BitVec.ofNat 32 w
    if !isCommandWord v && v &&& 0x7FFFFFFE#32 == 0x20#32 then some (.busWrite 0x00020#18 (v &&& 0x80000001#32))
    else some (.command v)
  else none

/-- The instruction of an opcode-table word. -/
def decodeTableWord (nbits w : Nat) : Option Instr := (codeOfTableWord nbits w).map decode

/-- The byte offset of a register, from R23's table written the other way round. -/
def Reg.offset : Reg → Nat
  | .id => 0x000 | .version => 0x004 | .param0 => 0x008 | .param1 => 0x00C | .param2 => 0x010
  | .ctrl => 0x020 | .status => 0x024 | .irqEn => 0x028 | .cmd => 0x02C | .cmdResult => 0x030
  | .mtu => 0x040 | .txRunId => 0x044 | .txSeq => 0x048 | .txTotal => 0x04C | .txPlen => 0x050
  | .decLen => 0x054 | .encCrc => 0x058 | .crcValue => 0x060 | .crcState => 0x064 | .bufLevel => 0x070
  | .bufCap => 0x074 | .evqLevel => 0x078 | .txLevel => 0x07C | .txData => 0x080 | .evqPop => 0x084
  | .cntFrames => 0x0A0 | .cntControl => 0x0A4 | .cntFrameErr => 0x0A8 | .cntLineErr => 0x0AC
  | .cntResync => 0x0B0 | .cntOverflow => 0x0B4

/-- The bus address of a register: the register page starts at 0 (R71). -/
def Reg.addr (r : Reg) : Addr := BitVec.ofNat 18 r.offset

/-- The encoder: the form of an instruction, a bus access at its word-aligned address. -/
def encode : Instr → Code
  | .nop => .command Command.nop.word
  | .cntClear => .command Command.cntClear.word
  | .bufFlush => .command Command.bufFlush.word
  | .evqFlush => .command Command.evqFlush.word
  | .txFlush => .command Command.txFlush.word
  | .crcInit => .command Command.crcInit.word
  | .crcByte b => .command (Command.crcByte b).word
  | .crcBuf => .command Command.crcBuf.word
  | .frameEncode => .command Command.frameEncode.word
  | .frameDecode => .command Command.frameDecode.word
  | .lineParse => .command Command.lineParse.word
  | .illegal w => .command w
  | .wrCmd d => .busWrite Reg.cmd.addr d
  | .wrCtrl d => .busWrite Reg.ctrl.addr d
  | .wrStatus d => .busWrite Reg.status.addr d
  | .wrIrqEn d => .busWrite Reg.irqEn.addr d
  | .wrMtu d => .busWrite Reg.mtu.addr d
  | .wrTxRunId d => .busWrite Reg.txRunId.addr d
  | .wrTxSeq d => .busWrite Reg.txSeq.addr d
  | .wrTxTotal d => .busWrite Reg.txTotal.addr d
  | .wrTxPlen d => .busWrite Reg.txPlen.addr d
  | .wrDecLen d => .busWrite Reg.decLen.addr d
  | .wrTxData d => .busWrite Reg.txData.addr d
  | .wrEvqPop d => .busWrite Reg.evqPop.addr d
  | .wrPay k d => .busWrite (0b01#2 ++ k ++ 0b00#2) d
  | .wrDec k d => .busWrite (0b10#2 ++ k ++ 0b00#2) d
  | .wrOther k d => .busWrite (k ++ 0b00#2) d
  | .rdAny k => .busRead (k ++ 0b00#2)
  | .rxDeliver b => .rxByte b
  | .txTake => .txStep
  | .engineComplete => .engineStep
  | .demuxStep => .demuxStep

end Sys2Proof
end

