-- ==== Sys2Proof/Machine/State.lean ====
section
/-! DEFINITION. The state of the block as plain data (10_state.md R20: "Nothing else is state"), its records and codes
(30_encoding.md R109, R117, R118; 60_exceptions.md R350), the outcomes that stop, and reset (R60, R380, R381). Around the
block State holds what the model itself needs: the build, the operations still to happen, and what the block last gave
its two outputs. -/

namespace Sys2Proof.Machine

/-- The result codes of R350. -/
inductive ResultCode where
  | ok | invalidPayloadSize | badMagic | badLength | checksumMismatch | malformedControlMessage | illegalCommand
deriving DecidableEq, Repr

/-- How `decode_frame` fails (42_frame_codec.md R171). -/
inductive DecodeError where
  | badMagic | badLength | checksumMismatch
deriving DecidableEq, Repr

/-- Why a line is malformed (R118). -/
inductive Reason where
  | noTerminator | illegalByte | badSyntax | noType | unknownType | missingField | fieldType | fieldRange | listOverflow
deriving DecidableEq, Repr

/-- The six control messages (R117). -/
inductive Msg where
  | sync | syncAck | burst | report | endMsg | finalMsg
deriving DecidableEq, Repr

/-- The contents of a FRAME record (R109): the header fields and the stored checksum, without the payload (R266). -/
structure Frame where
  runId : Half
  seq : Half
  total : Half
  payloadLen : Half
  checksum : Word
deriving DecidableEq, Repr

/-- The contents of a CONTROL record (R109, R112). -/
structure Control where
  msg : Msg
  runId : Half
  f0 : Word
  f1 : Word
  f2 : Word
  f3 : Word
  f4 : Word
  list : List Half
deriving DecidableEq, Repr

/-- A record (R109). -/
inductive Record where
  | none
  | frame (f : Frame)
  | control (c : Control)
  | frameError (e : DecodeError)
  | lineError (r : Reason)
deriving DecidableEq, Repr

/-- The six statistics counters (R50). -/
structure Counters where
  frames : Word
  control : Word
  frameErr : Word
  lineErr : Word
  resync : Word
  overflow : Word
deriving DecidableEq, Repr

/-- The sticky bits of STATUS, bits 8 to 13 (R29, R31). -/
structure Sticky where
  cmdDone : Bool
  errCmdOvr : Bool
  errWrBusy : Bool
  errCfg : Bool
  errTxOvf : Bool
  errEvqUnf : Bool
deriving DecidableEq, Repr

/-- The bytes of the PAY and DEC windows that the host has written, by bus address (20_memory.md R71). -/
abbrev Memory := List Host.Cell

/-- The one canonical form: addresses strictly rising. An unlisted address holds no byte of the host's: it reads as its
power-on draw, which no listed byte can be known to equal (log entry 2). -/
abbrev Memory.wf (m : Memory) : Prop := m.Pairwise (fun x y => x.1 < y.1)

/-- The block's state: exactly the tuple of R20. -/
structure Block where
  /-- `SB`, the StreamBuffer, oldest byte first (R51). -/
  sb : Bytes
  /-- `EVQ`, the event queue, head first (R52). -/
  evq : List Record
  /-- `TXF`, the transmit FIFO, head first (R53). -/
  txf : Bytes
  /-- `PAY[i]` at `0x10000 + i` and `DEC[i]` at `0x20000 + i` (R54, R55, R71). -/
  mem : Memory
  /-- `BUSY` (R56). -/
  busy : Bool
  /-- `PEND`, meaningful while BUSY = 1 (R56). -/
  pend : Word
  /-- `CRC_STATE` (R57). -/
  crcState : Word
  /-- `RES` (R58). -/
  res : Record
  /-- `CTRL.DEMUX_EN` (R28). -/
  demuxEn : Bool
  /-- `IRQ_EN`: IE_EVQ, IE_DONE, IE_ERR from bit 0 up (R32). -/
  irqEn : BitVec 3
  /-- `MTU` (R35). -/
  mtu : Half
  /-- `TX_RUN_ID` (R36). -/
  txRunId : Half
  /-- `TX_SEQ` (R37). -/
  txSeq : Half
  /-- `TX_TOTAL` (R38). -/
  txTotal : Half
  /-- `TX_PLEN` (R39). -/
  txPlen : Half
  /-- `DEC_LEN` (R40). -/
  decLen : Half
  /-- `CMD_RESULT` (R34). -/
  cmdResult : Word
  /-- `ENC_CRC` (R41). -/
  encCrc : Word
  /-- The sticky bits of STATUS (R31). -/
  sticky : Sticky
  /-- The statistics counters (R50). -/
  cnt : Counters
deriving DecidableEq, Repr

/-- The machine: the block and, as the model's own fields, what stands around it.
`build`: the parameters the block is built with (R6), which no step changes.
`moves`: the operations still to happen, in the order the agents take them (R12, R80); every order is some list (log entry 4).
`rdData`: the word the last bus read returned (R301). `wire`: the bytes TXPORT has handed to the transport, first first (R309). -/
structure State where
  build : Build
  blk : Block
  moves : List Code
  rdData : Word
  wire : Bytes
deriving DecidableEq, Repr

/-- A reason to stop with a fault: none. Safe and exact: "The block has no fault state and no refusal state" (60_exceptions.md
R359), "Nothing in the block is fatal and nothing stops it" (R358). -/
inductive Fault : Type
deriving DecidableEq, Repr

/-- A reason to refuse an operation. -/
inductive Refusal where
  /-- Raised by exec's arm of an instruction that has no meaning yet; no arm raises it now. Safe: the machine stops. -/
  | notModelled (mnemonic : String)
deriving DecidableEq, Repr

/-- The outcome of one operation. -/
abbrev Outcome := Host.Outcome State Fault Refusal

/-- The block after power-on reset: the power-on column of R60 (R380). No byte of PAY or DEC is written yet, so every one
reads as its draw (R382). -/
def Block.reset (p : Build) : Block where
  sb := []
  evq := []
  txf := []
  mem := []
  busy := false
  pend := 0
  crcState := 0xFFFFFFFF
  res := .none
  demuxEn := false
  irqEn := 0
  mtu := BitVec.ofNat 16 p.mtuMax
  txRunId := 0
  txSeq := 0
  txTotal := 0
  txPlen := 0
  decLen := 0
  cmdResult := 0
  encCrc := 0
  sticky := ⟨false, false, false, false, false, false⟩
  cnt := ⟨0, 0, 0, 0, 0, 0⟩

/-- The machine of build `p` right after power-on reset: nothing waits to happen, nothing was read or sent.
The values of `moves`, `rdData` and `wire` are DESIGN CHOICE (log entries 4 and 5). -/
def State.resetOf (p : Build) : State := ⟨p, Block.reset p, [], 0, []⟩

/-- The machine right after reset, in the build of 95_test_vectors.md (log entry 1). -/
def State.reset : State := State.resetOf Build.vectors

end Sys2Proof.Machine
end

