-- ==== Sys2Proof/Machine/Operands.lean ====
section
/-! DEFINITION. Byte sequences (00_scope.md R10), the RAM behind the PAY and DEC windows (20_memory.md R71-R74) and the operands
commands and writes take from them and from the data word. -/

namespace Sys2Proof.Machine

/-! ## Byte sequences (R10) -/

/-- Byte `i` of a sequence; the rules never ask for one beyond its end. -/
def byteAt (s : Bytes) (i : Nat) : Byte := s.getD i 0

/-- `LE16(v)`. -/
def le16 (v : Half) : Bytes := [v.extractLsb' 0 8, v.extractLsb' 8 8]

/-- `LE32(v)`. -/
def le32 (v : Word) : Bytes := [v.extractLsb' 0 8, v.extractLsb' 8 8, v.extractLsb' 16 8, v.extractLsb' 24 8]

/-- `rdLE16(s, i)`. -/
def rdLE16 (s : Bytes) (i : Nat) : Half := byteAt s (i + 1) ++ byteAt s i

/-- `rdLE32(s, i)`. -/
def rdLE32 (s : Bytes) (i : Nat) : Word := byteAt s (i + 3) ++ byteAt s (i + 2) ++ byteAt s (i + 1) ++ byteAt s i

/-- `s[i..j)`. -/
def slice (s : Bytes) (i j : Nat) : Bytes := (s.take j).drop i

/-- The low half `d[15:0]` of a data word, the part a 16-bit register takes (R315-R317). -/
def lowHalf (d : Word) : Half := d.extractLsb' 0 16

/-- The low byte `d[7:0]` of a data word, the part TX_DATA takes (R306). -/
def lowByte (d : Word) : Byte := d.extractLsb' 0 8

/-- Byte lane `j` of a bus word: bits `[8j+7 : 8j]` (R73). -/
def lane (d : Word) (j : Nat) : Byte := d.extractLsb' (8 * j) 8

/-! ## The RAM behind the windows -/

/-- The bus address of `PAY[0]` (R71). -/
def payBase : Nat := 0x10000

/-- The bus address of `DEC[0]` (R71). -/
def decBase : Nat := 0x20000

/-- The byte the host last wrote at an address; none when it wrote none. -/
def Memory.cell (m : Memory) (a : Nat) : Option Byte := (m.find? (·.1 == a)).map (·.2)

/-- The byte a RAM address holds: the one last written, else its power-on draw (R382). -/
def Memory.read (m : Memory) (a : Nat) : Byte := (m.cell a).getD (Config.powerOnByte a)

/-- Writes one byte, keeping the addresses strictly rising. -/
def Memory.write : Memory → Nat → Byte → Memory
  | [], a, b => [(a, b)]
  | c :: m, a, b =>
    if a < c.1 then (a, b) :: c :: m
    else if a = c.1 then (a, b) :: m
    else c :: Memory.write m a b

/-- The `n` bytes from an address up. -/
def Memory.readBytes (m : Memory) (a n : Nat) : Bytes := (List.range n).map fun i => m.read (a + i)

/-- One lane of a window read: byte `i` of a buffer of `size` bytes, 0 at or beyond its end (R74). -/
def windowLane (m : Memory) (base size i : Nat) : Byte := if i < size then m.read (base + i) else 0

/-- The word at byte offset `off` of a window (R73, R74). -/
def windowRead (m : Memory) (base size off : Nat) : Word :=
  windowLane m base size (off + 3) ++ windowLane m base size (off + 2) ++
    windowLane m base size (off + 1) ++ windowLane m base size off

/-- One lane of a window write, ignored at or beyond the buffer's end (R73, R74). -/
def windowWriteLane (m : Memory) (base size i : Nat) (b : Byte) : Memory :=
  if i < size then m.write (base + i) b else m

/-- A write of the word at byte offset `off` of a window: `B[off+j] <- d[8j+7:8j]` for each lane inside the buffer (R73). -/
def windowWrite (m : Memory) (base size off : Nat) (d : Word) : Memory :=
  [0, 1, 2, 3].foldl (fun m j => windowWriteLane m base size (off + j) (lane d j)) m

/-! ## Operands of the commands -/

/-- `DEC[0 .. DEC_LEN)`, the input of FRAME_DECODE, CRC_BUF and LINE_PARSE (R55). -/
def Block.decSlice (b : Block) : Bytes := b.mem.readBytes decBase b.decLen.toNat

/-- `PAY[0 .. MTU-14)`, the payload FRAME_ENCODE sends (R54). -/
def Block.paySlice (b : Block) : Bytes := b.mem.readBytes payBase (b.mtu.toNat - 14)

/-- `BUF_CAP = MTU * 150`, the StreamBuffer cap (R45, R250). -/
def Block.bufCap (b : Block) : Nat := b.mtu.toNat * 150

end Sys2Proof.Machine
end

