-- ==== Sys2Proof/Machine/Ops.lean ====
section
/-! DEFINITION. The shared operations over the block's state: evicting from SB, emitting an event, bumping a counter, the guard
on writes while BUSY, completing a command with its result code (the block's only "entry": it takes no traps, 60_exceptions.md
R351, R356), soft reset, and lifting a change of the block to the machine. -/

namespace Sys2Proof.Machine

/-! ## Codes -/

/-- The numeric value of a result code (R350). -/
def ResultCode.code : ResultCode → Byte
  | .ok => 0x00
  | .invalidPayloadSize => 0x01
  | .badMagic => 0x02
  | .badLength => 0x03
  | .checksumMismatch => 0x04
  | .malformedControlMessage => 0x05
  | .illegalCommand => 0x06

/-- The result code of a decode failure (R350). -/
def DecodeError.result : DecodeError → ResultCode
  | .badMagic => .badMagic
  | .badLength => .badLength
  | .checksumMismatch => .checksumMismatch

/-! ## Counters (44_demux.md R264): each wraps modulo 2^32 -/

/-- CNT_FRAMES + 1. -/
def Counters.addFrame (c : Counters) : Counters := { c with frames := c.frames + 1 }

/-- CNT_CONTROL + 1. -/
def Counters.addControl (c : Counters) : Counters := { c with control := c.control + 1 }

/-- CNT_FRAME_ERR + 1. -/
def Counters.addFrameErr (c : Counters) : Counters := { c with frameErr := c.frameErr + 1 }

/-- CNT_LINE_ERR + 1. -/
def Counters.addLineErr (c : Counters) : Counters := { c with lineErr := c.lineErr + 1 }

/-- CNT_RESYNC + 1. -/
def Counters.addResync (c : Counters) : Counters := { c with resync := c.resync + 1 }

/-- CNT_OVERFLOW + n: one per evicted byte. -/
def Counters.addOverflow (c : Counters) (n : Nat) : Counters := { c with overflow := c.overflow + BitVec.ofNat 32 n }

/-! ## Queues -/

/-- `evict(n)`: removes the first `n` bytes of SB (R11). -/
def Block.evict (b : Block) (n : Nat) : Block := { b with sb := b.sb.drop n }

/-- `while len(SB) > bound: evict(1); CNT_OVERFLOW + 1`, in one step (R251, R315): the oldest bytes go first. -/
def Block.trimTo (b : Block) (bound : Nat) : Block :=
  { b.evict (b.sb.length - bound) with cnt := b.cnt.addOverflow (b.sb.length - bound) }

/-- `emit(r)`: appends an event at the tail of EVQ (R262). -/
def Block.emit (b : Block) (r : Record) : Block := { b with evq := b.evq ++ [r] }

/-- The head of EVQ, the NONE record when it is empty: what the EVT window shows (R75). -/
def Block.evtHead (b : Block) : Record := b.evq.headD .none

/-! ## The guard on writes while BUSY (10_state.md R62) -/

/-- A guarded write other than CMD: while BUSY it sets ERR_WR_BUSY and changes nothing else (R319), else `f` applies. -/
def guardedWrite (f : Block → Block) (b : Block) : Block :=
  if b.busy then { b with sticky := { b.sticky with errWrBusy := true } } else f b

/-- Sets ERR_CFG and nothing else: an illegal MTU or DEC_LEN write (R315, R317, R352). -/
def Block.setErrCfg (b : Block) : Block := { b with sticky := { b.sticky with errCfg := true } }

/-! ## Completing a command (R303) -/

/-- `CMD_RESULT <- (1 << 16) | (zext_32(w[7:0]) << 8) | zext_32(code)`. -/
def resultWord (w : Word) (c : ResultCode) : Word := (1#16 ++ opc w ++ c.code : BitVec 32)

/-- The outputs every completion writes: CMD_RESULT, CMD_DONE, BUSY (R303). PEND keeps its word. -/
def Block.complete (b : Block) (w : Word) (c : ResultCode) : Block :=
  { b with cmdResult := resultWord w c, sticky := { b.sticky with cmdDone := true }, busy := false }

/-- The word `w` is the pending command (R56). -/
def Block.pending (b : Block) (w : Word) : Bool := b.busy && b.pend == w

/-! ## Soft reset -/

/-- The soft-reset column of R60 (R381): the power-on value of everything but PAY and DEC, which keep their bytes. -/
def Block.softReset (p : Build) (b : Block) : Block := { Block.reset p with mem := b.mem }

/-! ## The machine -/

/-- The machine with another block. -/
def State.withBlk (s : State) (b : Block) : State := { s with blk := b }

/-- The next state in which the block is `f` of what it was. -/
def onBlock (f : Build → Block → Block) (s : State) : Outcome := .next (s.withBlk (f s.build s.blk))

/-- The ENGINE's completion step for the word `w` (R303): enabled iff `w` is the pending command and `perform` answers;
`perform` answers none while the command's completion condition does not hold. A step that is not enabled is not taken:
the block stays as it is (R359, log entry 4). -/
def completeWith (w : Word) (perform : Build → Block → Option (Block × ResultCode)) (p : Build) (b : Block) : Block :=
  if b.pending w then
    match perform p b with
    | some (b', c) => b'.complete w c
    | none => b
  else b

/-- Where step finds the next operation: the head of the machine's list, which it consumes. -/
def State.fetch (s : State) : Option (Code × State) :=
  match s.moves with
  | [] => none
  | c :: rest => some (c, { s with moves := rest })

/-- The machine in which `c` is the very next operation: at the head of the list, and for a command word also accepted
into the pending slot (PEND, BUSY), where the ENGINE finds it (R302). -/
def State.place (s : State) : Code → State
  | .command w => { s with moves := .command w :: s.moves, blk := { s.blk with busy := true, pend := w } }
  | .busWrite addr d => { s with moves := .busWrite addr d :: s.moves }
  | .busRead addr => { s with moves := .busRead addr :: s.moves }
  | .rxByte b => { s with moves := .rxByte b :: s.moves }
  | .txStep => { s with moves := .txStep :: s.moves }
  | .engineStep => { s with moves := .engineStep :: s.moves }
  | .demuxStep => { s with moves := .demuxStep :: s.moves }

end Sys2Proof.Machine
end

