-- ==== Sys2Proof/Machine/Crc.lean ====
section
/-! DEFINITION. The CRC32 function and the stand-alone engine's commands (41_crc.md). -/

namespace Sys2Proof.Machine

/-- The bit-reflected generator polynomial (R150). -/
def crcPoly : Word := 0xEDB88320

/-- One of the eight shift steps of `crc_update` (R151). -/
def crcShift (c : Word) : Word := if c.getLsbD 0 then (c >>> 1) ^^^ crcPoly else c >>> 1

/-- `crc_update(c, b)` (R151). -/
def crcUpdate (c : Word) (b : Byte) : Word :=
  crcShift (crcShift (crcShift (crcShift (crcShift (crcShift (crcShift (crcShift (c ^^^ b.setWidth 32))))))))

/-- `crc_run(c, s)`: a left fold, `s[0]` first (R151). -/
def crcRun (c : Word) (s : Bytes) : Word := s.foldl crcUpdate c

/-- `crc32(s)` (R151). -/
def crc32 (s : Bytes) : Word := crcRun 0xFFFFFFFF s ^^^ 0xFFFFFFFF

/-- The effect of CRC_INIT (R153). -/
def performCrcInit (_ : Build) (b : Block) : Option (Block × ResultCode) := some ({ b with crcState := 0xFFFFFFFF }, .ok)

/-- The effect of CRC_BYTE (R154). -/
def performCrcByte (imm8 : Byte) (_ : Build) (b : Block) : Option (Block × ResultCode) :=
  some ({ b with crcState := crcUpdate b.crcState imm8 }, .ok)

/-- The effect of CRC_BUF (R155). -/
def performCrcBuf (_ : Build) (b : Block) : Option (Block × ResultCode) :=
  some ({ b with crcState := crcRun b.crcState b.decSlice }, .ok)

/-- CRC_INIT (R153). -/
def execCrcInit (s : State) : Outcome := onBlock (completeWith Command.crcInit.word performCrcInit) s

/-- CRC_BYTE imm8 (R154). -/
def execCrcByte (imm8 : Byte) (s : State) : Outcome :=
  onBlock (completeWith (Command.crcByte imm8).word (performCrcByte imm8)) s

/-- CRC_BUF (R155). -/
def execCrcBuf (s : State) : Outcome := onBlock (completeWith Command.crcBuf.word performCrcBuf) s

end Sys2Proof.Machine
end

