-- ==== Sys2Proof/Machine/Codec.lean ====
section
/-! DEFINITION. The frame codec: `encode_frame`, `decode_frame` and the two commands over them (42_frame_codec.md; the wire
format is 30_encoding.md R105). -/

namespace Sys2Proof.Machine

/-- The frame magic (R6, R105). -/
def magic : Half := 0xA55A

/-- Everything before the checksum of a frame: `h` of R170. -/
def frameHead (runId seq total : Half) (payload : Bytes) (mtu : Nat) : Bytes :=
  le16 magic ++ le16 runId ++ le16 seq ++ le16 total ++ le16 (BitVec.ofNat 16 (mtu - 14)) ++ payload

/-- `encode_frame` (R170). -/
def encodeFrame (runId seq total : Half) (payload : Bytes) (mtu : Nat) : Bytes :=
  frameHead runId seq total payload mtu ++ le32 (crc32 (frameHead runId seq total payload mtu))

/-- The header fields and the stored checksum of a slice of `mtu` bytes (R176). -/
def frameOf (s : Bytes) (mtu : Nat) : Frame where
  runId := rdLE16 s 2
  seq := rdLE16 s 4
  total := rdLE16 s 6
  payloadLen := rdLE16 s 8
  checksum := rdLE32 s (mtu - 4)

/-- `decode_frame` (R171), its checks in their order: R172, R173, R174, R175. -/
def decodeFrame (s : Bytes) (mtu : Nat) : Except DecodeError Frame :=
  if s.length < 2 ∨ byteAt s 0 ≠ 0x5A ∨ byteAt s 1 ≠ 0xA5 then .error .badMagic
  else if s.length ≠ mtu then .error .badLength
  else if (rdLE16 s 8).toNat ≠ mtu - 14 then .error .badLength
  else if rdLE32 s (mtu - 4) ≠ crc32 (slice s 0 (mtu - 4)) then .error .checksumMismatch
  else .ok (frameOf s mtu)

/-- The frame FRAME_ENCODE builds from its operands (R178). -/
def Block.txFrame (b : Block) : Bytes := encodeFrame b.txRunId b.txSeq b.txTotal b.paySlice b.mtu.toNat

/-- `len(payload) = mtu - 14`, with TX_PLEN for the payload's length (R179). -/
def Block.plenOk (b : Block) : Bool := b.txPlen.toNat == b.mtu.toNat - 14

/-- `TX_FIFO_DEPTH - len(TXF) >= MTU` (R180). -/
def Block.frameFits (p : Build) (b : Block) : Bool := b.mtu.toNat ≤ p.txFifoDepth - b.txf.length

/-- The effect of FRAME_ENCODE (R178, R179): none while the frame does not fit (R180). -/
def performFrameEncode (p : Build) (b : Block) : Option (Block × ResultCode) :=
  if !b.plenOk then some (b, .invalidPayloadSize)
  else if b.frameFits p then
    some ({ b with txf := b.txf ++ b.txFrame, encCrc := rdLE32 b.txFrame (b.mtu.toNat - 4) }, .ok)
  else none

/-- The effect of FRAME_DECODE (R181): RES is written on success and on failure (R321). -/
def performFrameDecode (_ : Build) (b : Block) : Option (Block × ResultCode) :=
  match decodeFrame b.decSlice b.mtu.toNat with
  | .ok f => some ({ b with res := .frame f }, .ok)
  | .error e => some ({ b with res := .frameError e }, e.result)

/-- FRAME_ENCODE (R178). -/
def execFrameEncode (s : State) : Outcome := onBlock (completeWith Command.frameEncode.word performFrameEncode) s

/-- FRAME_DECODE (R181). -/
def execFrameDecode (s : State) : Outcome := onBlock (completeWith Command.frameDecode.word performFrameDecode) s

end Sys2Proof.Machine
end

