-- ==== Sys2Proof/Machine/Json.lean ====
section
/-! DEFINITION. The text of a control line: the line alphabet and the JSON grammar of a line's body, read by recursive descent
(43_control_line.md R200-R205). Bytes are given by their ASCII codes (30_encoding.md R119). -/

namespace Sys2Proof.Machine

/-- LF, the line terminator (R200). -/
def lf : Byte := 0x0A

/-- The line alphabet: HT, CR and printable ASCII (R201). -/
def inAlphabet (b : Byte) : Bool := b == 0x09 || b == 0x0D || (0x20 ≤ b.toNat && b.toNat ≤ 0x7E)

/-- A number token (R202): its sign, the digits of `int`, the digits of `frac` (none when there is no `frac`) and whether it
has an `exp`. -/
structure NumTok where
  neg : Bool
  int : List Nat
  frac : List Nat
  exp : Bool
deriving DecidableEq, Repr

/-- A JSON value (R202): strings are sequences of 16-bit code units (R203), objects sequences of members in text order (R205). -/
inductive Json where
  | null
  | bool (b : Bool)
  | num (t : NumTok)
  | str (s : List Half)
  | arr (elems : List Json)
  | obj (members : List (List Half × Json))

/-- The members of an object, in text order (R205). -/
abbrev Members := List (List Half × Json)

/-! ## Lexical elements -/

/-- A byte of `ws`. -/
def isWs (b : Byte) : Bool := b == 0x20 || b == 0x09 || b == 0x0D

/-- Skips `ws`, as many bytes as there are. -/
def skipWs : Bytes → Bytes
  | [] => []
  | b :: s => if isWs b then skipWs s else b :: s

/-- The value of a `DIGIT`. -/
def digitOf (b : Byte) : Option Nat := if 0x30 ≤ b.toNat ∧ b.toNat ≤ 0x39 then some (b.toNat - 0x30) else none

/-- The value of a `HEXDIG`. -/
def hexOf (b : Byte) : Option Nat :=
  if 0x30 ≤ b.toNat ∧ b.toNat ≤ 0x39 then some (b.toNat - 0x30)
  else if 0x41 ≤ b.toNat ∧ b.toNat ≤ 0x46 then some (b.toNat - 0x41 + 10)
  else if 0x61 ≤ b.toNat ∧ b.toNat ≤ 0x66 then some (b.toNat - 0x61 + 10)
  else none

/-- `*DIGIT`: the digits at the front and the rest. -/
def takeDigits : Bytes → List Nat × Bytes
  | [] => ([], [])
  | b :: s =>
    match digitOf b with
    | some d => (d :: (takeDigits s).1, (takeDigits s).2)
    | none => ([], b :: s)

/-- `1*DIGIT`. -/
def takeDigits1 (s : Bytes) : Option (List Nat × Bytes) :=
  match takeDigits s with
  | ([], _) => none
  | (d :: ds, r) => some (d :: ds, r)

/-- `int`: a lone 0, or digits that do not begin with 0. -/
def parseInt : Bytes → Option (List Nat × Bytes)
  | [] => none
  | b :: s => if b = 0x30 then some ([0], s) else takeDigits1 (b :: s)

/-- `[ frac ]`. -/
def parseFrac : Bytes → Option (List Nat × Bytes)
  | [] => some ([], [])
  | b :: s => if b = 0x2E then takeDigits1 s else some ([], b :: s)

/-- The sign of an exponent, if there is one. -/
def skipSign : Bytes → Bytes
  | [] => []
  | b :: s => if b = 0x2B ∨ b = 0x2D then s else b :: s

/-- `[ exp ]`: whether there is one, and the rest. -/
def parseExp : Bytes → Option (Bool × Bytes)
  | [] => some (false, [])
  | b :: s =>
    if b = 0x65 ∨ b = 0x45 then
      match takeDigits1 (skipSign s) with
      | some (_, r) => some (true, r)
      | none => none
    else some (false, b :: s)

/-- `int [ frac ] [ exp ]` after a sign that was or was not there. -/
def parseUnsigned (neg : Bool) (s : Bytes) : Option (NumTok × Bytes) :=
  match parseInt s with
  | none => none
  | some (int, s1) =>
    match parseFrac s1 with
    | none => none
    | some (frac, s2) =>
      match parseExp s2 with
      | none => none
      | some (exp, s3) => some (⟨neg, int, frac, exp⟩, s3)

/-- `number`. -/
def parseNumber : Bytes → Option (NumTok × Bytes)
  | [] => none
  | b :: s => if b = 0x2D then parseUnsigned true s else parseUnsigned false (b :: s)

/-- The code unit of a two-byte escape, by its second byte (R203). -/
def escapeOf (b : Byte) : Option Half :=
  if b = 0x22 then some 0x22 else if b = 0x5C then some 0x5C else if b = 0x2F then some 0x2F
  else if b = 0x62 then some 0x08 else if b = 0x66 then some 0x0C else if b = 0x6E then some 0x0A
  else if b = 0x72 then some 0x0D else if b = 0x74 then some 0x09 else none

/-- The code unit 0xXXXX of four hexadecimal digits (R203). -/
def hex4 (a b c d : Byte) : Option Half :=
  match hexOf a, hexOf b, hexOf c, hexOf d with
  | some x, some y, some z, some w => some (BitVec.ofNat 16 (((x * 16 + y) * 16 + z) * 16 + w))
  | _, _, _, _ => none

/-- A byte of `unescaped`. -/
def isUnescaped (b : Byte) : Bool :=
  (0x20 ≤ b.toNat && b.toNat ≤ 0x21) || (0x23 ≤ b.toNat && b.toNat ≤ 0x5B) || (0x5D ≤ b.toNat && b.toNat ≤ 0x7E)

/-- Puts a code unit before the rest of a string's. -/
def consUnit (u : Half) : Option (List Half × Bytes) → Option (List Half × Bytes)
  | some (us, r) => some (u :: us, r)
  | none => none

/-- `*char %x22`: a string after its opening quote. -/
def parseChars : Bytes → Option (List Half × Bytes)
  | [] => none
  | b :: s =>
    if b = 0x22 then some ([], s)
    else if b = 0x5C then
      match s with
      | [] => none
      | e :: s1 =>
        if e = 0x75 then
          match s1 with
          | h1 :: h2 :: h3 :: h4 :: s2 =>
            match hex4 h1 h2 h3 h4 with
            | some u => consUnit u (parseChars s2)
            | none => none
          | _ => none
        else
          match escapeOf e with
          | some u => consUnit u (parseChars s1)
          | none => none
    else if isUnescaped b then consUnit (b.setWidth 16) (parseChars s)
    else none

/-- `string`. -/
def parseString : Bytes → Option (List Half × Bytes)
  | [] => none
  | b :: s => if b = 0x22 then parseChars s else none

/-- The rest after a fixed run of bytes. -/
def expect : Bytes → Bytes → Option Bytes
  | [], s => some s
  | _ :: _, [] => none
  | e :: es, b :: s => if e = b then expect es s else none

/-- A literal: its first byte has been seen, the rest of its letters follow. -/
def parseLiteral (letters : Bytes) (v : Json) (s : Bytes) : Option (Json × Bytes) :=
  match expect letters s with
  | some r => some (v, r)
  | none => none

/-- `string ws ":" ws`: a member's key and the bytes where its value begins. -/
def parseKey (s : Bytes) : Option (List Half × Bytes) :=
  match parseString s with
  | none => none
  | some (k, s1) =>
    match skipWs s1 with
    | [] => none
    | b :: s2 => if b = 0x3A then some (k, skipWs s2) else none

/-! ## Values: recursive descent on a fuel that twice the input's length covers (R213: depth is never a refusal) -/

mutual

/-- `value` at the front of the bytes, and the rest. -/
def parseValue : Nat → Bytes → Option (Json × Bytes)
  | 0, _ => none
  | _ + 1, [] => none
  | n + 1, b :: s =>
    if b = 0x7B then
      match skipWs s with
      | [] => none
      | c :: t =>
        if c = 0x7D then some (.obj [], t)
        else
          match parseMembers n (c :: t) with
          | some (ms, r) => some (.obj ms, r)
          | none => none
    else if b = 0x5B then
      match skipWs s with
      | [] => none
      | c :: t =>
        if c = 0x5D then some (.arr [], t)
        else
          match parseElems n (c :: t) with
          | some (es, r) => some (.arr es, r)
          | none => none
    else if b = 0x22 then
      match parseChars s with
      | some (u, r) => some (.str u, r)
      | none => none
    else if b = 0x74 then parseLiteral [0x72, 0x75, 0x65] (.bool true) s
    else if b = 0x66 then parseLiteral [0x61, 0x6C, 0x73, 0x65] (.bool false) s
    else if b = 0x6E then parseLiteral [0x75, 0x6C, 0x6C] .null s
    else
      match parseNumber (b :: s) with
      | some (t, r) => some (.num t, r)
      | none => none

/-- `value *( ws "," ws value ) ws "]"`. -/
def parseElems : Nat → Bytes → Option (List Json × Bytes)
  | 0, _ => none
  | n + 1, s =>
    match parseValue n s with
    | none => none
    | some (v, s1) =>
      match skipWs s1 with
      | [] => none
      | c :: s2 =>
        if c = 0x5D then some ([v], s2)
        else if c = 0x2C then
          match parseElems n (skipWs s2) with
          | some (vs, r) => some (v :: vs, r)
          | none => none
        else none

/-- `member *( ws "," ws member ) ws "}"`. -/
def parseMembers : Nat → Bytes → Option (Members × Bytes)
  | 0, _ => none
  | n + 1, s =>
    match parseKey s with
    | none => none
    | some (k, s1) =>
      match parseValue n s1 with
      | none => none
      | some (v, s2) =>
        match skipWs s2 with
        | [] => none
        | c :: s3 =>
          if c = 0x7D then some ([(k, v)], s3)
          else if c = 0x2C then
            match parseMembers n (skipWs s3) with
            | some (ms, r) => some ((k, v) :: ms, r)
            | none => none
          else none

end

/-- `line-body = ws object ws` (R202): the members of the top-level object; none when the body does not match. -/
def parseBody (body : Bytes) : Option Members :=
  match parseValue (2 * body.length + 2) (skipWs body) with
  | some (.obj ms, r) => if skipWs r = [] then some ms else none
  | _ => none

/-! ## Reading a parsed object -/

/-- `lookup(O, name)`: the value of the last member whose key equals `name` (R205). -/
def lookup : Members → List Half → Option Json
  | [], _ => none
  | (k, v) :: ms, name =>
    match lookup ms name with
    | some w => some w
    | none => if k = name then some v else none

/-- *int form* (R204). -/
def NumTok.intForm (t : NumTok) : Bool := !t.neg && t.frac.isEmpty && !t.exp

/-- *decimal form* (R204). -/
def NumTok.decimalForm (t : NumTok) : Bool := !t.neg && !t.exp

/-- The exact integer of a sequence of decimal digits (R204). -/
def digitsValue (ds : List Nat) : Nat := ds.foldl (fun a d => 10 * a + d) 0

end Sys2Proof.Machine
end

