-- ==== Sys2Proof/Machine/Line.lean ====
section
/-! DEFINITION. The control-line parser: message recognition, field kinds, `parse_line` and LINE_PARSE (43_control_line.md
R206-R218). -/

namespace Sys2Proof.Machine

/-! ## Names: the ASCII codes of the key and kind names of R206 and R207 -/

/-- The code units of an ASCII name. -/
def nameOf (codes : List Nat) : List Half := codes.map (BitVec.ofNat 16)

/-- `type` -/
def keyType : List Half := nameOf [0x74, 0x79, 0x70, 0x65]
/-- `run_id` -/
def keyRunId : List Half := nameOf [0x72, 0x75, 0x6E, 0x5F, 0x69, 0x64]
/-- `mtu` -/
def keyMtu : List Half := nameOf [0x6D, 0x74, 0x75]
/-- `count` -/
def keyCount : List Half := nameOf [0x63, 0x6F, 0x75, 0x6E, 0x74]
/-- `window` -/
def keyWindow : List Half := nameOf [0x77, 0x69, 0x6E, 0x64, 0x6F, 0x77]
/-- `seqs` -/
def keySeqs : List Half := nameOf [0x73, 0x65, 0x71, 0x73]
/-- `missing` -/
def keyMissing : List Half := nameOf [0x6D, 0x69, 0x73, 0x73, 0x69, 0x6E, 0x67]
/-- `received_total` -/
def keyReceivedTotal : List Half :=
  nameOf [0x72, 0x65, 0x63, 0x65, 0x69, 0x76, 0x65, 0x64, 0x5F, 0x74, 0x6F, 0x74, 0x61, 0x6C]
/-- `crc_fail` -/
def keyCrcFail : List Half := nameOf [0x63, 0x72, 0x63, 0x5F, 0x66, 0x61, 0x69, 0x6C]
/-- `timeouts` -/
def keyTimeouts : List Half := nameOf [0x74, 0x69, 0x6D, 0x65, 0x6F, 0x75, 0x74, 0x73]
/-- `received` -/
def keyReceived : List Half := nameOf [0x72, 0x65, 0x63, 0x65, 0x69, 0x76, 0x65, 0x64]
/-- `expected` -/
def keyExpected : List Half := nameOf [0x65, 0x78, 0x70, 0x65, 0x63, 0x74, 0x65, 0x64]
/-- `loss_pct` -/
def keyLossPct : List Half := nameOf [0x6C, 0x6F, 0x73, 0x73, 0x5F, 0x70, 0x63, 0x74]

/-- The name of a message kind (R206): `SYNC`, `SYNC_ACK`, `BURST`, `REPORT`, `END`, `FINAL`. -/
def Msg.name : Msg → List Half
  | .sync => nameOf [0x53, 0x59, 0x4E, 0x43]
  | .syncAck => nameOf [0x53, 0x59, 0x4E, 0x43, 0x5F, 0x41, 0x43, 0x4B]
  | .burst => nameOf [0x42, 0x55, 0x52, 0x53, 0x54]
  | .report => nameOf [0x52, 0x45, 0x50, 0x4F, 0x52, 0x54]
  | .endMsg => nameOf [0x45, 0x4E, 0x44]
  | .finalMsg => nameOf [0x46, 0x49, 0x4E, 0x41, 0x4C]

/-- The message kind of a name, case-sensitive (R206). -/
def msgOfName (s : List Half) : Option Msg :=
  [Msg.sync, .syncAck, .burst, .report, .endMsg, .finalMsg].find? (·.name == s)

/-! ## Field kinds (R208-R210, R214) -/

/-- An int-form number of at most `bound` (R208, R209). -/
def boundedInt (bound : Nat) : Json → Except Reason Nat
  | .num t =>
    if !t.intForm then .error .fieldType
    else if digitsValue t.int ≤ bound then .ok (digitsValue t.int)
    else .error .fieldRange
  | .null | .bool _ | .str _ | .arr _ | .obj _ => .error .fieldType

/-- Kind U16 (R208). -/
def kindU16 (v : Json) : Except Reason Half := (boundedInt 65535 v).map (BitVec.ofNat 16)

/-- Kind U32 (R209). -/
def kindU32 (v : Json) : Except Reason Word := (boundedInt 4294967295 v).map (BitVec.ofNat 32)

/-- The values of an array's elements when every one is an int-form number (R210 check 1). -/
def intElems : List Json → Option (List Nat)
  | [] => some []
  | .num t :: es =>
    if t.intForm then
      match intElems es with
      | some vs => some (digitsValue t.int :: vs)
      | none => none
    else none
  | _ :: _ => none

/-- Kind LIST16 (R210), its three checks in order. -/
def kindList16 (listMax : Nat) : Json → Except Reason (List Half)
  | .arr es =>
    match intElems es with
    | none => .error .fieldType
    | some vs =>
      if listMax < vs.length then .error .listOverflow
      else if vs.all (· ≤ 65535) then .ok (vs.map (BitVec.ofNat 16))
      else .error .fieldRange
  | .null | .bool _ | .num _ | .str _ | .obj _ => .error .fieldType

/-- `loss_cp` of a decimal-form number: `I * 100 + 10 * d1 + d2`, later digits ignored (R214). -/
def lossCp (t : NumTok) : Nat := digitsValue t.int * 100 + 10 * t.frac.getD 0 0 + t.frac.getD 1 0

/-- Kind PCT (R214). -/
def kindPct : Json → Except Reason Word
  | .num t =>
    if !t.decimalForm then .error .fieldType
    else if lossCp t ≤ 4294967295 then .ok (BitVec.ofNat 32 (lossCp t))
    else .error .fieldRange
  | .null | .bool _ | .str _ | .arr _ | .obj _ => .error .fieldType

/-- A required field: absent is MISSING_FIELD, else its kind's checks (R216). -/
def field {α : Type} (o : Members) (key : List Half) (kind : Json → Except Reason α) : Except Reason α :=
  match lookup o key with
  | none => .error .missingField
  | some v => kind v

/-! ## The required fields of each kind, in checking order (R207), and the record's slots (R112) -/

/-- SYNC. -/
def parseSync (o : Members) : Except Reason Control := do
  let runId ← field o keyRunId kindU16
  let mtu ← field o keyMtu kindU16
  let count ← field o keyCount kindU16
  let window ← field o keyWindow kindU16
  pure ⟨.sync, runId, mtu.setWidth 32, count.setWidth 32, window.setWidth 32, 0, 0, []⟩

/-- SYNC_ACK. -/
def parseSyncAck (o : Members) : Except Reason Control := do
  let runId ← field o keyRunId kindU16
  pure ⟨.syncAck, runId, 0, 0, 0, 0, 0, []⟩

/-- BURST. -/
def parseBurst (listMax : Nat) (o : Members) : Except Reason Control := do
  let runId ← field o keyRunId kindU16
  let seqs ← field o keySeqs (kindList16 listMax)
  pure ⟨.burst, runId, 0, 0, 0, 0, 0, seqs⟩

/-- REPORT. -/
def parseReport (listMax : Nat) (o : Members) : Except Reason Control := do
  let runId ← field o keyRunId kindU16
  let missing ← field o keyMissing (kindList16 listMax)
  let receivedTotal ← field o keyReceivedTotal kindU32
  let crcFail ← field o keyCrcFail kindU32
  let timeouts ← field o keyTimeouts kindU32
  pure ⟨.report, runId, receivedTotal, crcFail, timeouts, 0, 0, missing⟩

/-- END. -/
def parseEnd (o : Members) : Except Reason Control := do
  let runId ← field o keyRunId kindU16
  pure ⟨.endMsg, runId, 0, 0, 0, 0, 0, []⟩

/-- FINAL. -/
def parseFinal (o : Members) : Except Reason Control := do
  let runId ← field o keyRunId kindU16
  let received ← field o keyReceived kindU32
  let expected ← field o keyExpected kindU32
  let lossPct ← field o keyLossPct kindPct
  let crcFail ← field o keyCrcFail kindU32
  let timeouts ← field o keyTimeouts kindU32
  pure ⟨.finalMsg, runId, received, expected, lossPct, crcFail, timeouts, []⟩

/-- The fields of the recognised kind. -/
def parseFields (listMax : Nat) (m : Msg) (o : Members) : Except Reason Control :=
  match m with
  | .sync => parseSync o
  | .syncAck => parseSyncAck o
  | .burst => parseBurst listMax o
  | .report => parseReport listMax o
  | .endMsg => parseEnd o
  | .finalMsg => parseFinal o

/-- The message kind of an object: its `type` member (R206). -/
def msgOf (o : Members) : Except Reason Msg :=
  match lookup o keyType with
  | some (.str s) =>
    match msgOfName s with
    | some m => .ok m
    | none => .error .unknownType
  | some .null | some (.bool _) | some (.num _) | some (.arr _) | some (.obj _) | none => .error .noType

/-- `L` is one line: non-empty, its last byte LF and no LF before it (R200). -/
def isLine (l : Bytes) : Bool := l.getLast? == some lf && !l.dropLast.contains lf

/-- `parse_line` (R216), its checks in their order. -/
def parseLine (listMax : Nat) (l : Bytes) : Except Reason Control :=
  if !isLine l then .error .noTerminator
  else if !l.dropLast.all inAlphabet then .error .illegalByte
  else
    match parseBody l.dropLast with
    | none => .error .badSyntax
    | some o =>
      match msgOf o with
      | .error r => .error r
      | .ok m => parseFields listMax m o

/-- The effect of LINE_PARSE (R218): RES is written on success and on failure (R321). -/
def performLineParse (p : Build) (b : Block) : Option (Block × ResultCode) :=
  match parseLine p.listMax b.decSlice with
  | .ok c => some ({ b with res := .control c }, .ok)
  | .error r => some ({ b with res := .lineError r }, .malformedControlMessage)

/-- LINE_PARSE (R218). -/
def execLineParse (s : State) : Outcome := onBlock (completeWith Command.lineParse.word performLineParse) s

end Sys2Proof.Machine
end

