-- ==== Sys2Proof/Machine/Demux.lean ====
section
/-! DEFINITION. The stream demultiplexer: `classify`, when the DEMUX step is enabled, and its actions (44_demux.md R254-R264). -/

namespace Sys2Proof.Machine

/-- What `classify` answers (R255). -/
inductive Action where
  | wait
  | noise
  | frameOk (f : Frame)
  | frameBad (e : DecodeError)
  | line (k : Nat)
  | dead
  | full
deriving DecidableEq, Repr

/-- The first byte outside the line alphabet, with its index. -/
def firstOutside : Bytes → Option (Nat × Byte)
  | [] => none
  | b :: s =>
    if inAlphabet b then
      match firstOutside s with
      | some (k, c) => some (k + 1, c)
      | none => none
    else some (0, b)

/-- The frame path: the front is 0x5A (R257). `rest` is SB after it. -/
def classifyFrame (mtu : Nat) (sb rest : Bytes) : Action :=
  match rest with
  | [] => .wait
  | b1 :: _ =>
    if b1 ≠ 0xA5 then .noise
    else if sb.length < mtu then .wait
    else
      match decodeFrame (sb.take mtu) mtu with
      | .ok f => .frameOk f
      | .error e => .frameBad e

/-- The line path: the front is `0x7B` (R258, R260). `rest` is SB after it. -/
def classifyLine (cap : Nat) (sb rest : Bytes) : Action :=
  match firstOutside rest with
  | some (k, b) => if b = lf then .line (k + 1) else .dead
  | none => if sb.length < cap then .wait else .full

/-- `classify(SB)` (R255), a pure function of SB, MTU and BUF_CAP. -/
def classify (mtu cap : Nat) (sb : Bytes) : Action :=
  match sb with
  | [] => .wait
  | b0 :: rest =>
    if b0 = 0x5A then classifyFrame mtu sb rest
    else if b0 = 0x7B then classifyLine cap sb rest
    else .noise

/-- The action of the next DEMUX step. -/
def Block.action (b : Block) : Action := classify b.mtu.toNat b.bufCap b.sb

/-- The DEMUX step is enabled (R256). -/
def Block.demuxEnabled (p : Build) (b : Block) : Bool :=
  b.demuxEn && b.evq.length < p.evqDepth && b.action != .wait

/-- One byte evicted by resynchronisation: DEAD, FULL and NOISE (R256). -/
def Block.resync (b : Block) : Block := { b.evict 1 with cnt := b.cnt.addResync }

/-- The effect of an action (R256, R264). -/
def Block.act (p : Build) (b : Block) : Action → Block
  | .wait => b
  | .noise => b.resync
  | .dead => b.resync
  | .full => b.resync
  | .frameOk f => { (b.evict b.mtu.toNat).emit (.frame f) with cnt := b.cnt.addFrame }
  | .frameBad e => { (b.evict 1).emit (.frameError e) with cnt := b.cnt.addFrameErr.addResync }
  | .line k =>
    match parseLine p.listMax (b.sb.take (k + 1)) with
    | .ok c => { (b.evict (k + 1)).emit (.control c) with cnt := b.cnt.addControl }
    | .error _ => { b.evict (k + 1) with cnt := b.cnt.addLineErr }

/-- One DEMUX step; a step that is not enabled is not taken (R256, R359, log entry 4). -/
def Block.demux (p : Build) (b : Block) : Block := if b.demuxEnabled p then b.act p b.action else b

/-- The DEMUX agent's step (R256). -/
def execDemuxStep (s : State) : Outcome := onBlock Block.demux s

end Sys2Proof.Machine
end

