-- ==== Sys2Proof/Machine/Flags.lean ====
section
/-! DEFINITION. The flags: the STATUS word, its live bits and its sticky bits (10_state.md R29-R31), the write that clears sticky
bits (45_host_commands.md R312), and the interrupt line (60_exceptions.md R355). -/

namespace Sys2Proof.Machine

/-- A word whose bit `i` is `x` and whose other bits are 0. -/
def flag (i : Nat) (x : Bool) : Word := if x then 1#32 <<< i else 0

/-- EVQ_NE (R29). -/
def Block.evqNe (b : Block) : Bool := decide (0 < b.evq.length)

/-- EVQ_FULL (R29). -/
def Block.evqFull (p : Build) (b : Block) : Bool := b.evq.length == p.evqDepth

/-- TX_EMPTY (R29). -/
def Block.txEmpty (b : Block) : Bool := b.txf.length == 0

/-- TX_FULL (R29). -/
def Block.txFull (p : Build) (b : Block) : Bool := b.txf.length == p.txFifoDepth

/-- BUF_FULL (R29). -/
def Block.bufFull (b : Block) : Bool := b.sb.length == b.bufCap

/-- DEMUX_IDLE: the DEMUX agent has no enabled step (R30). -/
def Block.demuxIdle (p : Build) (b : Block) : Bool := !b.demuxEnabled p

/-- The live bits 0 to 6, computed at each read (R30). -/
def Block.liveBits (p : Build) (b : Block) : Word :=
  flag 0 b.busy ||| flag 1 b.evqNe ||| flag 2 (b.evqFull p) ||| flag 3 b.txEmpty ||| flag 4 (b.txFull p) |||
    flag 5 b.bufFull ||| flag 6 (b.demuxIdle p)

/-- The sticky bits 8 to 13 (R29). -/
def Sticky.bits (k : Sticky) : Word :=
  flag 8 k.cmdDone ||| flag 9 k.errCmdOvr ||| flag 10 k.errWrBusy ||| flag 11 k.errCfg ||| flag 12 k.errTxOvf |||
    flag 13 k.errEvqUnf

/-- The STATUS word; bits 7 and 31:14 read 0 (R29). -/
def Block.status (p : Build) (b : Block) : Word := b.liveBits p ||| b.sticky.bits

/-- Write 1 to clear: each sticky bit `i` with `d[i] = 1` is cleared, the others stay (R312). -/
def Sticky.clear (k : Sticky) (d : Word) : Sticky where
  cmdDone := k.cmdDone && !d.getLsbD 8
  errCmdOvr := k.errCmdOvr && !d.getLsbD 9
  errWrBusy := k.errWrBusy && !d.getLsbD 10
  errCfg := k.errCfg && !d.getLsbD 11
  errTxOvf := k.errTxOvf && !d.getLsbD 12
  errEvqUnf := k.errEvqUnf && !d.getLsbD 13

/-- Some sticky error bit is set (R355's third source). -/
def Sticky.anyErr (k : Sticky) : Bool := k.errCmdOvr || k.errWrBusy || k.errCfg || k.errTxOvf || k.errEvqUnf

/-- The interrupt output, a function of the state (R355). -/
def Block.irq (b : Block) : Bool :=
  (b.irqEn.getLsbD 0 && b.evqNe) || (b.irqEn.getLsbD 1 && b.sticky.cmdDone) || (b.irqEn.getLsbD 2 && b.sticky.anyErr)

end Sys2Proof.Machine
end

