-- ==== Sys2Proof/Machine/Bus.lean ====
section
/-! DEFINITION. The host's bus accesses: what each register and window reads as (10_state.md R23-R50, 20_memory.md R71-R77,
30_encoding.md R110-R117) and what each write does (45_host_commands.md R300-R319). -/

namespace Sys2Proof.Machine

/-! ## Rendering a record (R110) -/

/-- KIND codes (R116). -/
def Record.kind : Record → BitVec 4
  | .none => 0
  | .frame _ => 1
  | .control _ => 2
  | .frameError _ => 3
  | .lineError _ => 4

/-- MSG codes (R117). -/
def Msg.code : Msg → Byte
  | .sync => 1
  | .syncAck => 2
  | .burst => 3
  | .report => 4
  | .endMsg => 5
  | .finalMsg => 6

/-- REASON codes (R118). -/
def Reason.code : Reason → Byte
  | .noTerminator => 0x01
  | .illegalByte => 0x02
  | .badSyntax => 0x03
  | .noType => 0x04
  | .unknownType => 0x05
  | .missingField => 0x06
  | .fieldType => 0x07
  | .fieldRange => 0x08
  | .listOverflow => 0x09

/-- The MSG byte of a record. -/
def Record.msgByte : Record → Byte
  | .control c => c.msg.code
  | .none | .frame _ | .frameError _ | .lineError _ => 0

/-- The CODE byte of a record (R113, R114). -/
def Record.codeByte : Record → Byte
  | .frameError e => e.result.code
  | .lineError _ => ResultCode.malformedControlMessage.code
  | .none | .frame _ | .control _ => 0

/-- The REASON byte of a record (R114). -/
def Record.reasonByte : Record → Byte
  | .lineError r => r.code
  | .none | .frame _ | .control _ | .frameError _ => 0

/-- The word at offset 0: `{REASON, MSG, CODE, 0000b, KIND}`. -/
def Record.kindWord (r : Record) : Word := (r.reasonByte ++ r.msgByte ++ r.codeByte ++ 0#4 ++ r.kind : BitVec 32)

/-- RUN_ID (R111, R112). -/
def Record.runIdWord : Record → Word
  | .frame f => f.runId.setWidth 32
  | .control c => c.runId.setWidth 32
  | .none | .frameError _ | .lineError _ => 0

/-- The slots F0 to F4 (R111, R112); every slot a kind does not define is 0 (R110). -/
def Record.slots : Record → List Word
  | .frame f => [f.seq.setWidth 32, f.total.setWidth 32, f.payloadLen.setWidth 32, f.checksum, 0]
  | .control c => [c.f0, c.f1, c.f2, c.f3, c.f4]
  | .none | .frameError _ | .lineError _ => [0, 0, 0, 0, 0]

/-- The list of a record: a CONTROL record's, else empty. -/
def Record.list : Record → List Half
  | .control c => c.list
  | .none | .frame _ | .frameError _ | .lineError _ => []

/-- `render(r, o)` at a word offset `o` (R110). -/
def render (listMax : Nat) (r : Record) (o : Nat) : Word :=
  if o = 0x000 then r.kindWord
  else if o = 0x004 then r.runIdWord
  else if 0x008 ≤ o ∧ o ≤ 0x018 then r.slots.getD ((o - 8) / 4) 0
  else if o = 0x01C then BitVec.ofNat 32 r.list.length
  else if 0x040 ≤ o ∧ o < 0x040 + 4 * listMax then (r.list.getD ((o - 0x040) / 4) 0).setWidth 32
  else 0

/-! ## Reads (R301) -/

/-- What a register reads as (R24-R50). A write-only register reads 0. -/
def Block.readReg (p : Build) (b : Block) : Reg → Word
  | .id => 0x52464231
  | .version => 0x00010000
  | .param0 => (BitVec.ofNat 16 p.listMax ++ BitVec.ofNat 16 p.mtuMax : BitVec 32)
  | .param1 => (0#24 ++ BitVec.ofNat 8 p.evqDepth : BitVec 32)
  | .param2 => (0#7 ++ BitVec.ofNat 25 p.txFifoDepth : BitVec 32)
  | .ctrl => flag 0 b.demuxEn
  | .status => b.status p
  | .irqEn => b.irqEn.setWidth 32
  | .cmd => 0
  | .cmdResult => b.cmdResult
  | .mtu => b.mtu.setWidth 32
  | .txRunId => b.txRunId.setWidth 32
  | .txSeq => b.txSeq.setWidth 32
  | .txTotal => b.txTotal.setWidth 32
  | .txPlen => b.txPlen.setWidth 32
  | .decLen => b.decLen.setWidth 32
  | .encCrc => b.encCrc
  | .crcValue => b.crcState ^^^ 0xFFFFFFFF
  | .crcState => b.crcState
  | .bufLevel => BitVec.ofNat 32 b.sb.length
  | .bufCap => BitVec.ofNat 32 b.bufCap
  | .evqLevel => BitVec.ofNat 32 b.evq.length
  | .txLevel => BitVec.ofNat 32 b.txf.length
  | .txData => 0
  | .evqPop => 0
  | .cntFrames => b.cnt.frames
  | .cntControl => b.cnt.control
  | .cntFrameErr => b.cnt.frameErr
  | .cntLineErr => b.cnt.lineErr
  | .cntResync => b.cnt.resync
  | .cntOverflow => b.cnt.overflow

/-- The word a read at word index `k` returns (R301): a register, a record field, window bytes, or 0 where nothing is
(R26, R76). -/
def Block.readWord (p : Build) (b : Block) (k : BitVec 16) : Word :=
  match regionOf (4 * k.toNat) with
  | .reg off =>
    match regAt off with
    | some r => b.readReg p r
    | none => 0
  | .evt off => render p.listMax b.evtHead off
  | .res off => render p.listMax b.res off
  | .pay off => windowRead b.mem payBase p.payBufSize off
  | .dec off => windowRead b.mem decBase p.decBufSize off
  | .reserved => 0

/-! ## The effect of each write on the block -/

/-- CMD (R302): accepted when no command is pending, else dropped with ERR_CMD_OVR. The word is not checked. -/
def writeCmd (d : Word) (_ : Build) (b : Block) : Block :=
  if b.busy then { b with sticky := { b.sticky with errCmdOvr := true } } else { b with pend := d, busy := true }

/-- CTRL (R313): bit 31 performs the soft reset and nothing else, else DEMUX_EN takes bit 0. -/
def writeCtrl (d : Word) (p : Build) (b : Block) : Block :=
  if d.getLsbD 31 then b.softReset p else { b with demuxEn := d.getLsbD 0 }

/-- STATUS (R312). -/
def writeStatus (d : Word) (_ : Build) (b : Block) : Block := { b with sticky := b.sticky.clear d }

/-- IRQ_EN (R314). -/
def writeIrqEn (d : Word) (_ : Build) (b : Block) : Block := { b with irqEn := d.extractLsb' 0 3 }

/-- MTU (R315): refused with ERR_CFG while DEMUX_EN = 1 or outside `14 .. MTU_MAX`; a legal write trims SB to the new cap. -/
def writeMtu (d : Word) (p : Build) (b : Block) : Block :=
  guardedWrite (fun b =>
    if b.demuxEn then b.setErrCfg
    else if (lowHalf d).toNat < 14 ∨ p.mtuMax < (lowHalf d).toNat then b.setErrCfg
    else { b with mtu := lowHalf d }.trimTo ((lowHalf d).toNat * 150)) b

/-- TX_RUN_ID (R316). -/
def writeTxRunId (d : Word) (_ : Build) (b : Block) : Block := guardedWrite (fun b => { b with txRunId := lowHalf d }) b

/-- TX_SEQ (R316). -/
def writeTxSeq (d : Word) (_ : Build) (b : Block) : Block := guardedWrite (fun b => { b with txSeq := lowHalf d }) b

/-- TX_TOTAL (R316). -/
def writeTxTotal (d : Word) (_ : Build) (b : Block) : Block := guardedWrite (fun b => { b with txTotal := lowHalf d }) b

/-- TX_PLEN (R316). -/
def writeTxPlen (d : Word) (_ : Build) (b : Block) : Block := guardedWrite (fun b => { b with txPlen := lowHalf d }) b

/-- DEC_LEN (R317): refused with ERR_CFG above DEC_BUF_SIZE. -/
def writeDecLen (d : Word) (p : Build) (b : Block) : Block :=
  guardedWrite (fun b => if p.decBufSize < (lowHalf d).toNat then b.setErrCfg else { b with decLen := lowHalf d }) b

/-- TX_DATA (R306): a full FIFO drops the byte with ERR_TX_OVF. -/
def writeTxData (d : Word) (p : Build) (b : Block) : Block :=
  guardedWrite (fun b =>
    if b.txf.length = p.txFifoDepth then { b with sticky := { b.sticky with errTxOvf := true } }
    else { b with txf := b.txf ++ [lowByte d] }) b

/-- EVQ_POP (R311), not guarded: an empty queue sets ERR_EVQ_UNF. -/
def writeEvqPop (_ : Build) (b : Block) : Block :=
  match b.evq with
  | [] => { b with sticky := { b.sticky with errEvqUnf := true } }
  | _ :: rest => { b with evq := rest }

/-- The word at index `k` of the PAY window (R318). -/
def writePay (k : BitVec 14) (d : Word) (p : Build) (b : Block) : Block :=
  guardedWrite (fun b => { b with mem := windowWrite b.mem payBase p.payBufSize (4 * k.toNat) d }) b

/-- The word at index `k` of the DEC window (R318). -/
def writeDec (k : BitVec 14) (d : Word) (p : Build) (b : Block) : Block :=
  guardedWrite (fun b => { b with mem := windowWrite b.mem decBase p.decBufSize (4 * k.toNat) d }) b

/-! ## The bus instructions -/

/-- WR CMD (R302). -/
def execWrCmd (d : Word) (s : State) : Outcome := onBlock (writeCmd d) s

/-- WR CTRL (R313). -/
def execWrCtrl (d : Word) (s : State) : Outcome := onBlock (writeCtrl d) s

/-- WR STATUS (R312). -/
def execWrStatus (d : Word) (s : State) : Outcome := onBlock (writeStatus d) s

/-- WR IRQ_EN (R314). -/
def execWrIrqEn (d : Word) (s : State) : Outcome := onBlock (writeIrqEn d) s

/-- WR MTU (R315). -/
def execWrMtu (d : Word) (s : State) : Outcome := onBlock (writeMtu d) s

/-- WR TX_RUN_ID (R316). -/
def execWrTxRunId (d : Word) (s : State) : Outcome := onBlock (writeTxRunId d) s

/-- WR TX_SEQ (R316). -/
def execWrTxSeq (d : Word) (s : State) : Outcome := onBlock (writeTxSeq d) s

/-- WR TX_TOTAL (R316). -/
def execWrTxTotal (d : Word) (s : State) : Outcome := onBlock (writeTxTotal d) s

/-- WR TX_PLEN (R316). -/
def execWrTxPlen (d : Word) (s : State) : Outcome := onBlock (writeTxPlen d) s

/-- WR DEC_LEN (R317). -/
def execWrDecLen (d : Word) (s : State) : Outcome := onBlock (writeDecLen d) s

/-- WR TX_DATA (R306). -/
def execWrTxData (d : Word) (s : State) : Outcome := onBlock (writeTxData d) s

/-- WR EVQ_POP (R311): the data is not used. -/
def execWrEvqPop (_ : Word) (s : State) : Outcome := onBlock writeEvqPop s

/-- WR PAY window (R318). -/
def execWrPay (k : BitVec 14) (d : Word) (s : State) : Outcome := onBlock (writePay k d) s

/-- WR DEC window (R318). -/
def execWrDec (k : BitVec 14) (d : Word) (s : State) : Outcome := onBlock (writeDec k d) s

/-- WR other address: "Every other address ignores the write" (R300). -/
def execWrOther (_ : BitVec 16) (_ : Word) (s : State) : Outcome := .next s

/-- RD any address (R301): the word goes to the bus; the block is unchanged. -/
def execRdAny (k : BitVec 16) (s : State) : Outcome := .next { s with rdData := s.blk.readWord s.build k }

end Sys2Proof.Machine
end

