-- ==== Sys2Proof/Machine/House.lean ====
section
/-! DEFINITION. The housekeeping commands and the illegal command word (45_host_commands.md R304-R310, R320). -/

namespace Sys2Proof.Machine

/-- The effect of NOP (R304): none. -/
def performNop (_ : Build) (b : Block) : Option (Block × ResultCode) := some (b, .ok)

/-- The effect of CNT_CLEAR (R305). -/
def performCntClear (_ : Build) (b : Block) : Option (Block × ResultCode) := some ({ b with cnt := ⟨0, 0, 0, 0, 0, 0⟩ }, .ok)

/-- The effect of BUF_FLUSH (R307): the flushed bytes are not counted. -/
def performBufFlush (_ : Build) (b : Block) : Option (Block × ResultCode) := some ({ b with sb := [] }, .ok)

/-- The effect of EVQ_FLUSH (R308). -/
def performEvqFlush (_ : Build) (b : Block) : Option (Block × ResultCode) := some ({ b with evq := [] }, .ok)

/-- The effect of TX_FLUSH (R310). -/
def performTxFlush (_ : Build) (b : Block) : Option (Block × ResultCode) := some ({ b with txf := [] }, .ok)

/-- The effect of an illegal word (R320): none but the code. -/
def performIllegal (_ : Build) (b : Block) : Option (Block × ResultCode) := some (b, .illegalCommand)

/-- NOP (R304). -/
def execNop (s : State) : Outcome := onBlock (completeWith Command.nop.word performNop) s

/-- CNT_CLEAR (R305). -/
def execCntClear (s : State) : Outcome := onBlock (completeWith Command.cntClear.word performCntClear) s

/-- BUF_FLUSH (R307). -/
def execBufFlush (s : State) : Outcome := onBlock (completeWith Command.bufFlush.word performBufFlush) s

/-- EVQ_FLUSH (R308). -/
def execEvqFlush (s : State) : Outcome := onBlock (completeWith Command.evqFlush.word performEvqFlush) s

/-- TX_FLUSH (R310). -/
def execTxFlush (s : State) : Outcome := onBlock (completeWith Command.txFlush.word performTxFlush) s

/-- An illegal command word `w` (R102, R320). -/
def execIllegal (w : Word) (s : State) : Outcome := onBlock (completeWith w performIllegal) s

end Sys2Proof.Machine
end

