-- ==== Sys2Proof/Machine/Engine.lean ====
section
/-! DEFINITION. The ENGINE agent: it completes the pending command (45_host_commands.md R303). -/

namespace Sys2Proof.Machine

/-- `perform(w)` in its envelope: the meaning of the row the pending word matches, or of an illegal word (R303, R320). -/
def runCommand (c : Command) (s : State) : Outcome :=
  match c with
  | .nop => execNop s
  | .cntClear => execCntClear s
  | .bufFlush => execBufFlush s
  | .evqFlush => execEvqFlush s
  | .txFlush => execTxFlush s
  | .crcInit => execCrcInit s
  | .crcByte imm8 => execCrcByte imm8 s
  | .crcBuf => execCrcBuf s
  | .frameEncode => execFrameEncode s
  | .frameDecode => execFrameDecode s
  | .lineParse => execLineParse s
  | .illegal w => execIllegal w s

/-- ENGINE's step `complete()` (R303): it runs the pending command. With BUSY = 0, or while a FRAME_ENCODE waits for FIFO space
(R180), the step is not enabled and not taken (R359). -/
def execEngineComplete (s : State) : Outcome := runCommand (decodeCommand s.blk.pend) s

end Sys2Proof.Machine
end

