-- ==== Sys2Proof/Machine/Port.lean ====
section
/-! DEFINITION. The two stream ports: RXPORT delivers one received byte (44_demux.md R251), TXPORT takes one byte of the transmit
FIFO (45_host_commands.md R309). -/

namespace Sys2Proof.Machine

/-- `rx_deliver(b)` (R251): SB is evicted to below its cap, each evicted byte counted, then the byte is appended. -/
def Block.rxDeliver (d : Byte) (_ : Build) (b : Block) : Block :=
  { b.trimTo (b.bufCap - 1) with sb := (b.trimTo (b.bufCap - 1)).sb ++ [d] }

/-- RXPORT's step (R251), always enabled, whatever DEMUX_EN. -/
def execRxDeliver (d : Byte) (s : State) : Outcome := onBlock (Block.rxDeliver d) s

/-- TXPORT's step (R309): the head of TXF goes to the transport; with an empty FIFO the step is not enabled and not taken. -/
def execTxTake (s : State) : Outcome :=
  match s.blk.txf with
  | [] => .next s
  | b :: rest => .next { s with blk := { s.blk with txf := rest }, wire := s.wire ++ [b] }

end Sys2Proof.Machine
end

