-- ==== Sys2Proof/Machine/Dispatch.lean ====
section
/-! DEFINITION. One arm per constructor of Instr, each one call of its meaning. -/

namespace Sys2Proof.Machine

/-- The meaning of an instruction. -/
def exec (i : Instr) (s : State) : Host.Outcome State Fault Refusal :=
  match i with
  -- commands, at their completion by the ENGINE
  | .nop => Sys2Proof.Machine.execNop s
  | .cntClear => Sys2Proof.Machine.execCntClear s
  | .bufFlush => Sys2Proof.Machine.execBufFlush s
  | .evqFlush => Sys2Proof.Machine.execEvqFlush s
  | .txFlush => Sys2Proof.Machine.execTxFlush s
  | .crcInit => Sys2Proof.Machine.execCrcInit s
  | .crcByte imm8 => Sys2Proof.Machine.execCrcByte imm8 s
  | .crcBuf => Sys2Proof.Machine.execCrcBuf s
  | .frameEncode => Sys2Proof.Machine.execFrameEncode s
  | .frameDecode => Sys2Proof.Machine.execFrameDecode s
  | .lineParse => Sys2Proof.Machine.execLineParse s
  | .illegal w => Sys2Proof.Machine.execIllegal w s
  -- host bus accesses
  | .wrCmd d => Sys2Proof.Machine.execWrCmd d s
  | .wrCtrl d => Sys2Proof.Machine.execWrCtrl d s
  | .wrStatus d => Sys2Proof.Machine.execWrStatus d s
  | .wrIrqEn d => Sys2Proof.Machine.execWrIrqEn d s
  | .wrMtu d => Sys2Proof.Machine.execWrMtu d s
  | .wrTxRunId d => Sys2Proof.Machine.execWrTxRunId d s
  | .wrTxSeq d => Sys2Proof.Machine.execWrTxSeq d s
  | .wrTxTotal d => Sys2Proof.Machine.execWrTxTotal d s
  | .wrTxPlen d => Sys2Proof.Machine.execWrTxPlen d s
  | .wrDecLen d => Sys2Proof.Machine.execWrDecLen d s
  | .wrTxData d => Sys2Proof.Machine.execWrTxData d s
  | .wrEvqPop d => Sys2Proof.Machine.execWrEvqPop d s
  | .wrPay k d => Sys2Proof.Machine.execWrPay k d s
  | .wrDec k d => Sys2Proof.Machine.execWrDec k d s
  | .wrOther k d => Sys2Proof.Machine.execWrOther k d s
  | .rdAny k => Sys2Proof.Machine.execRdAny k s
  -- port and agent steps
  | .rxDeliver b => Sys2Proof.Machine.execRxDeliver b s
  | .txTake => Sys2Proof.Machine.execTxTake s
  | .engineComplete => Sys2Proof.Machine.execEngineComplete s
  | .demuxStep => Sys2Proof.Machine.execDemuxStep s

end Sys2Proof.Machine
end

