-- ==== Sys2Proof/Machine/Step.lean ====
section
/-! DEFINITION. One step of the machine: the next operation of its list is decoded and executed. -/

namespace Sys2Proof.Machine

/-- One step (00_scope.md R12, 20_memory.md R80): the head of `moves` says which agent steps and with what; it is consumed,
decoded and executed. With nothing left to happen the machine stays as it is (R71: "after reset it does nothing until the
host writes to it"; log entry 4). -/
def step (s : State) : Host.Outcome State Fault Refusal :=
  match s.fetch with
  | none => .next s
  | some (c, rest) => exec (decode c) rest

/-- The machine in which the next step runs the instruction of an opcode-table word (log entry 3). -/
def State.withFetchWord (s : State) (nbits w : Nat) : State :=
  match codeOfTableWord nbits w with
  | none => s
  | some c => s.place c

end Sys2Proof.Machine
end

