-- ==== Sys2Proof/Machine/Grammar.lean ====
section
/-! DEFINITION. The grammar of a line's body as relations between text and value, production by production from the ABNF of
43_control_line.md R202 with the values of R203-R205. The parser (Json.lean) is a reading of it; that the two agree is a
statement. -/

namespace Sys2Proof.Machine.Grammar

/-- `ws = *( %x20 / %x09 / %x0D )`. -/
def Ws (s : Bytes) : Prop := ∀ b ∈ s, b = 0x20 ∨ b = 0x09 ∨ b = 0x0D

/-- `*DIGIT`, `DIGIT = %x30-39`: the text of a sequence of digit values. -/
def Digits (s : Bytes) (ds : List Nat) : Prop := (∀ d ∈ ds, d ≤ 9) ∧ s = ds.map fun d => BitVec.ofNat 8 (0x30 + d)

/-- `int = "0" / ( %x31-39 *DIGIT )`. -/
def IntText (s : Bytes) (ds : List Nat) : Prop := Digits s ds ∧ (ds = [0] ∨ ∃ d r, ds = d :: r ∧ 1 ≤ d)

/-- `[ frac ]`, `frac = "." 1*DIGIT`. -/
def FracText (s : Bytes) (ds : List Nat) : Prop := (s = [] ∧ ds = []) ∨ ∃ t, s = 0x2E :: t ∧ ds ≠ [] ∧ Digits t ds

/-- `[ exp ]`, `exp = ( "e" / "E" ) [ "-" / "+" ] 1*DIGIT`. -/
def ExpText (s : Bytes) (present : Bool) : Prop :=
  (s = [] ∧ present = false) ∨
    ∃ e sign t ds, s = e :: (sign ++ t) ∧ (e = 0x65 ∨ e = 0x45) ∧ (sign = [] ∨ sign = [0x2D] ∨ sign = [0x2B]) ∧
      ds ≠ [] ∧ Digits t ds ∧ present = true

/-- `number = [ "-" ] int [ frac ] [ exp ]`. -/
def NumText (s : Bytes) (t : NumTok) : Prop :=
  ∃ i f x, s = (if t.neg then [0x2D] else []) ++ i ++ f ++ x ∧ IntText i t.int ∧ FracText f t.frac ∧ ExpText x t.exp

/-- `HEXDIG = DIGIT / %x41-46 / %x61-66`, with its value. -/
def HexDigit (b : Byte) (v : Nat) : Prop :=
  (v ≤ 9 ∧ b = BitVec.ofNat 8 (0x30 + v)) ∨ (10 ≤ v ∧ v ≤ 15 ∧ (b = BitVec.ofNat 8 (0x37 + v) ∨ b = BitVec.ofNat 8 (0x57 + v)))

/-- The two-byte escapes of `char` with their code units (R203). -/
def escapes : List (Byte × Half) :=
  [(0x22, 0x22), (0x5C, 0x5C), (0x2F, 0x2F), (0x62, 0x08), (0x66, 0x0C), (0x6E, 0x0A), (0x72, 0x0D), (0x74, 0x09)]

/-- `*char`, with the code units it denotes (R203). -/
inductive Chars : Bytes → List Half → Prop where
  | nil : Chars [] []
  | unescaped (b : Byte) (s : Bytes) (us : List Half) :
      (0x20 ≤ b.toNat ∧ b.toNat ≤ 0x21) ∨ (0x23 ≤ b.toNat ∧ b.toNat ≤ 0x5B) ∨ (0x5D ≤ b.toNat ∧ b.toNat ≤ 0x7E) →
      Chars s us → Chars (b :: s) (b.setWidth 16 :: us)
  | escape (e : Byte) (u : Half) (s : Bytes) (us : List Half) :
      (e, u) ∈ escapes → Chars s us → Chars (0x5C :: e :: s) (u :: us)
  | unicode (a b c d : Byte) (x y z w : Nat) (s : Bytes) (us : List Half) :
      HexDigit a x → HexDigit b y → HexDigit c z → HexDigit d w → Chars s us →
      Chars (0x5C :: 0x75 :: a :: b :: c :: d :: s) (BitVec.ofNat 16 (4096 * x + 256 * y + 16 * z + w) :: us)

/-- `string = %x22 *char %x22`. -/
def StrText (s : Bytes) (us : List Half) : Prop := ∃ t, s = 0x22 :: (t ++ [0x22]) ∧ Chars t us

mutual

/-- `value`. -/
inductive ValueText : Bytes → Json → Prop where
  | litTrue : ValueText [0x74, 0x72, 0x75, 0x65] (.bool true)
  | litFalse : ValueText [0x66, 0x61, 0x6C, 0x73, 0x65] (.bool false)
  | litNull : ValueText [0x6E, 0x75, 0x6C, 0x6C] .null
  | number (s : Bytes) (t : NumTok) : NumText s t → ValueText s (.num t)
  | string (s : Bytes) (us : List Half) : StrText s us → ValueText s (.str us)
  | emptyArray (w : Bytes) : Ws w → ValueText (0x5B :: (w ++ [0x5D])) (.arr [])
  | array (w s : Bytes) (vs : List Json) : Ws w → ElemsText s vs → ValueText (0x5B :: (w ++ s)) (.arr vs)
  | emptyObject (w : Bytes) : Ws w → ValueText (0x7B :: (w ++ [0x7D])) (.obj [])
  | object (w s : Bytes) (ms : Members) : Ws w → MembersText s ms → ValueText (0x7B :: (w ++ s)) (.obj ms)

/-- `value *( ws "," ws value ) ws "]"`. -/
inductive ElemsText : Bytes → List Json → Prop where
  | last (s w : Bytes) (v : Json) : ValueText s v → Ws w → ElemsText (s ++ w ++ [0x5D]) [v]
  | more (s w₁ w₂ t : Bytes) (v : Json) (vs : List Json) :
      ValueText s v → Ws w₁ → Ws w₂ → ElemsText t vs → ElemsText (s ++ w₁ ++ 0x2C :: (w₂ ++ t)) (v :: vs)

/-- `member *( ws "," ws member ) ws "}"`. -/
inductive MembersText : Bytes → Members → Prop where
  | last (s w : Bytes) (k : List Half) (v : Json) : MemberText s k v → Ws w → MembersText (s ++ w ++ [0x7D]) [(k, v)]
  | more (s w₁ w₂ t : Bytes) (k : List Half) (v : Json) (ms : Members) :
      MemberText s k v → Ws w₁ → Ws w₂ → MembersText t ms → MembersText (s ++ w₁ ++ 0x2C :: (w₂ ++ t)) ((k, v) :: ms)

/-- `member = string ws ":" ws value`. -/
inductive MemberText : Bytes → List Half → Json → Prop where
  | mk (s w₁ w₂ t : Bytes) (k : List Half) (v : Json) :
      StrText s k → Ws w₁ → Ws w₂ → ValueText t v → MemberText (s ++ w₁ ++ 0x3A :: (w₂ ++ t)) k v

end

/-- `line-body = ws object ws`: the body denotes an object with the members `ms` (R202, R205). -/
def LineBody (body : Bytes) (ms : Members) : Prop :=
  ∃ w₁ s w₂, body = w₁ ++ s ++ w₂ ∧ Ws w₁ ∧ ValueText s (.obj ms) ∧ Ws w₂

end Sys2Proof.Machine.Grammar
end

