-- ==== Sys2Proof/Machine/Script.lean ====
section
/-! DEFINITION. Bus scripts (30_encoding.md R120, R121): each script line as the operations it stands for, so that a script is a
value of State.moves; the agents' steps a line waits for stand in it as operations of theirs. -/

namespace Sys2Proof.Machine.Script

/-- `WR addr, value`. -/
def wr (addr : Addr) (d : Word) : List Code := [.busWrite addr d]

/-- `RD addr`: the word read stands in State.rdData afterwards. -/
def rd (addr : Addr) : List Code := [.busRead addr]

/-- `RX b0, b1, ...`: one RXPORT step each. -/
def rx (bytes : Bytes) : List Code := bytes.map .rxByte

/-- `TX -> ...` of `n` bytes: the bytes taken stand at the end of State.wire afterwards. -/
def tx (n : Nat) : List Code := List.replicate n .txStep

/-- `n` DEMUX steps. `WAIT_DEMUX` is any `n` that leaves DEMUX_IDLE = 1; the length of SB is enough (44_demux.md R267). -/
def waitDemux (n : Nat) : List Code := List.replicate n .demuxStep

/-- The condition `(v & mask) == value` that ends a `POLL addr, mask, value`, on the word last read. -/
def pollMet (mask value : Word) (s : State) : Bool := s.rdData &&& mask == value

/-- `CMD name [imm8]`: the write of the command word, the ENGINE's step, and the read of STATUS that finds BUSY = 0. -/
def cmd (c : Command) : List Code := wr Reg.cmd.addr c.word ++ [.engineStep] ++ rd Reg.status.addr

/-- The words of a byte sequence, four bytes each, missing bytes of the last word taken as 0 (R121). -/
def wordsOf : Bytes → List Word
  | [] => []
  | [a] => [(0#24 ++ a : BitVec 32)]
  | [a, b] => [(0#16 ++ b ++ a : BitVec 32)]
  | [a, b, c] => [(0#8 ++ c ++ b ++ a : BitVec 32)]
  | a :: b :: c :: d :: rest => (d ++ c ++ b ++ a : BitVec 32) :: wordsOf rest

/-- `WRB base, b0, b1, ..., bn-1`. -/
def wrb (base : Addr) (bytes : Bytes) : List Code :=
  (wordsOf bytes).zipIdx.map fun x => .busWrite (base + BitVec.ofNat 18 (4 * x.2)) x.1

/-- `POP`. -/
def pop : List Code := wr Reg.evqPop.addr 0

/-- `CLR`: clears every sticky bit. -/
def clr : List Code := wr Reg.status.addr 0x00003F00

/-! ## The canonical form of a control line, which software that wants every line accepted emits (43_control_line.md R217) -/

/-- An unsigned number in shortest decimal. -/
def decimal (n : Nat) : Bytes := (Nat.toDigits 10 n).map fun c => BitVec.ofNat 8 c.toNat

/-- A name between quotes. -/
def quoted (name : List Half) : Bytes := 0x22 :: (name.map (·.setWidth 8) ++ [0x22])

/-- `,"<key>":` and the text of the value. -/
def member (key : List Half) (value : Bytes) : Bytes := 0x2C :: (quoted key ++ 0x3A :: value)

/-- A list without its opening bracket: `a,b,c]`. -/
def listTail : List Half → Bytes
  | [] => [0x5D]
  | [a] => decimal a.toNat ++ [0x5D]
  | a :: b :: rest => decimal a.toNat ++ 0x2C :: listTail (b :: rest)

/-- `I.F`: the integer digits and a sequence of fraction digits. -/
def percent (int : Nat) (frac : List Nat) : Bytes := decimal int ++ 0x2E :: frac.map fun d => BitVec.ofNat 8 (0x30 + d)

/-- `frac` is a fraction of at least one digit that `cp` hundredths of a percent may be written with: its first two digits, a
missing second one taken as 0, are the hundredths; the digits after them are free (R214, R217). -/
def isFraction (cp : Nat) (frac : List Nat) : Prop :=
  frac ≠ [] ∧ (∀ d ∈ frac, d ≤ 9) ∧ 10 * frac.getD 0 0 + frac.getD 1 0 = cp % 100

/-- The required fields of a message after `run_id`, in R207's order; `frac` is the fraction `loss_pct` is written with, which
only a FINAL line has. -/
def canonicalFields (c : Control) (frac : List Nat) : Bytes :=
  match c.msg with
  | .sync => member keyMtu (decimal c.f0.toNat) ++ member keyCount (decimal c.f1.toNat) ++ member keyWindow (decimal c.f2.toNat)
  | .syncAck => []
  | .burst => member keySeqs (0x5B :: listTail c.list)
  | .report =>
    member keyMissing (0x5B :: listTail c.list) ++ member keyReceivedTotal (decimal c.f0.toNat) ++
      member keyCrcFail (decimal c.f1.toNat) ++ member keyTimeouts (decimal c.f2.toNat)
  | .endMsg => []
  | .finalMsg =>
    member keyReceived (decimal c.f0.toNat) ++ member keyExpected (decimal c.f1.toNat) ++
      member keyLossPct (percent (c.f2.toNat / 100) frac) ++ member keyCrcFail (decimal c.f3.toNat) ++
      member keyTimeouts (decimal c.f4.toNat)

/-- A canonical line of a message: the one there is, but for the fraction digits of a FINAL line. -/
def canonicalLine (c : Control) (frac : List Nat) : Bytes :=
  0x7B :: (quoted keyType ++ 0x3A :: quoted c.msg.name ++ member keyRunId (decimal c.runId.toNat) ++ canonicalFields c frac ++
    [0x7D, lf])

/-- A message record whose slots are those of its kind (30_encoding.md R112): the fields in their ranges, every other slot
0, a list only where the kind has one and then of at most LIST_MAX entries. -/
def isMessage (listMax : Nat) (c : Control) : Prop :=
  match c.msg with
  | .sync => c.f0.toNat ≤ 65535 ∧ c.f1.toNat ≤ 65535 ∧ c.f2.toNat ≤ 65535 ∧ c.f3 = 0 ∧ c.f4 = 0 ∧ c.list = []
  | .syncAck => c.f0 = 0 ∧ c.f1 = 0 ∧ c.f2 = 0 ∧ c.f3 = 0 ∧ c.f4 = 0 ∧ c.list = []
  | .burst => c.f0 = 0 ∧ c.f1 = 0 ∧ c.f2 = 0 ∧ c.f3 = 0 ∧ c.f4 = 0 ∧ c.list.length ≤ listMax
  | .report => c.f3 = 0 ∧ c.f4 = 0 ∧ c.list.length ≤ listMax
  | .endMsg => c.f0 = 0 ∧ c.f1 = 0 ∧ c.f2 = 0 ∧ c.f3 = 0 ∧ c.f4 = 0 ∧ c.list = []
  | .finalMsg => c.list = []

/-! ## Running a wait -/

/-- `n` DEMUX steps in a row on the block. -/
def demuxRun (p : Build) : Nat → Block → Block
  | 0, b => b
  | n + 1, b => demuxRun p n (b.demux p)

end Sys2Proof.Machine.Script
end

