-- ==== Sys2Proof/Safety.lean ====
section
/-! DEFINITION. What a state of the block always satisfies (10_state.md R20, R51-R58), in the terms the statements use, and which
operations may change which part of it. -/

namespace Sys2Proof.Machine

/-- A record the demultiplexer may queue (44_demux.md R262): FRAME, CONTROL with a list of at most LIST_MAX entries, or
FRAME_ERROR with BadLength or ChecksumMismatch (30_encoding.md R113). -/
def Record.isEvent (listMax : Nat) : Record → Prop
  | .frame _ => True
  | .control c => c.list.length ≤ listMax
  | .frameError e => e = .badLength ∨ e = .checksumMismatch
  | .none => False
  | .lineError _ => False

/-- A record RES may hold (R58, R109): a CONTROL record's list has at most LIST_MAX entries. -/
def Record.fits (listMax : Nat) : Record → Prop
  | .control c => c.list.length ≤ listMax
  | .none => True
  | .frame _ => True
  | .frameError _ => True
  | .lineError _ => True

/-- A bus address of a byte of PAY or DEC (20_memory.md R71). -/
def isRamAddr (p : Build) (a : Nat) : Prop :=
  (payBase ≤ a ∧ a < payBase + p.payBufSize) ∨ (decBase ≤ a ∧ a < decBase + p.decBufSize)

/-- A value CMD_RESULT may hold (R34): 0 before any completion, then a result word. -/
def isResultWord (r : Word) : Prop := r = 0 ∨ ∃ w c, r = resultWord w c

/-- The invariant of the block in a build: every bound R20 and R51-R58 give. -/
structure Block.Inv (p : Build) (b : Block) : Prop where
  /-- `14 <= MTU <= MTU_MAX` (R35). -/
  mtuLegal : 14 ≤ b.mtu.toNat ∧ b.mtu.toNat ≤ p.mtuMax
  /-- `len(SB) <= BUF_CAP` (R51, R271). -/
  sbBound : b.sb.length ≤ b.bufCap
  /-- `len(EVQ) <= EVQ_DEPTH` (R52). -/
  evqBound : b.evq.length ≤ p.evqDepth
  /-- `len(TXF) <= TX_FIFO_DEPTH` (R53). -/
  txfBound : b.txf.length ≤ p.txFifoDepth
  /-- `0 <= DEC_LEN <= DEC_BUF_SIZE` (R40). -/
  decLenLegal : b.decLen.toNat ≤ p.decBufSize
  /-- The RAM list is in its canonical form. -/
  memWf : b.mem.wf
  /-- Only bytes of PAY and DEC are listed (R54, R55). -/
  memInside : ∀ c ∈ b.mem, isRamAddr p c.1
  /-- EVQ holds only records the demultiplexer emits (R262). -/
  events : ∀ r ∈ b.evq, r.isEvent p.listMax
  /-- RES is a record within LIST_MAX (R109). -/
  resFits : b.res.fits p.listMax
  /-- CMD_RESULT is 0 or a result word (R34). -/
  resultOk : isResultWord b.cmdResult
  /-- CMD_DONE is set only after a completion, which sets VALID (R34, R303). -/
  doneValid : b.sticky.cmdDone = true → b.cmdResult.getLsbD 16 = true

/-- The invariant of the machine: a legal build and the block's invariant in it. -/
def State.Inv (s : State) : Prop := s.build.Legal ∧ s.blk.Inv s.build

/-- The operation performs a soft reset: a CTRL write with bit 31 set (R313). -/
def isSoftReset : Instr → Bool
  | .wrCtrl d => d.getLsbD 31
  | _ => false

/-- The operation completes the pending command when it is `c`: the ENGINE's step, or that command's own. -/
def completes (c : Command) (b : Block) (i : Instr) : Prop :=
  b.busy = true ∧ decodeCommand b.pend = c ∧ (i = .engineComplete ∨ i = c.instr)

/-- The operation is a write to a guarded register or window other than CMD (10_state.md R62). -/
def isGuardedWrite : Instr → Bool
  | .wrMtu _ | .wrTxRunId _ | .wrTxSeq _ | .wrTxTotal _ | .wrTxPlen _ | .wrDecLen _ | .wrTxData _ | .wrPay _ _
  | .wrDec _ _ => true
  | _ => false

/-- The block with the three outputs every completion writes (R303): CMD_RESULT `r`, CMD_DONE 1, BUSY 0. -/
def completedWith (b : Block) (r : Word) : Block :=
  { b with cmdResult := r, sticky := { b.sticky with cmdDone := true }, busy := false }

/-- The pending command is a FRAME_ENCODE whose frame does not fit yet (42_frame_codec.md R180). -/
def Block.held (p : Build) (b : Block) : Prop :=
  decodeCommand b.pend = .frameEncode ∧ b.txPlen.toNat = b.mtu.toNat - 14 ∧ p.txFifoDepth - b.txf.length < b.mtu.toNat

/-- The word at a byte offset of the bus space reads as `v`: the access answers `v` on the bus (State.rdData, log entry 5) and
leaves the block as it is, whatever the rest of the machine. -/
def readsAs (p : Build) (b : Block) (offset : Nat) (v : Word) : Prop :=
  ∀ s : State, s.build = p → s.blk = b → exec (.rdAny (BitVec.ofNat 16 (offset / 4))) s = .next { s with rdData := v }

/-- The code units of an ASCII string: a name as the spec prints it. -/
def asciiUnits (s : String) : List Half := s.toList.map fun c => BitVec.ofNat 16 c.toNat

/-- The check of a required field, without its value. -/
def checkOf {α : Type} (o : Members) (key : List Half) (kind : Json → Except Reason α) : Except Reason Unit :=
  (field o key kind).map fun _ => ()

/-- The required fields of each kind with their kinds, in checking order: the table of 43_control_line.md R207. -/
def requiredFields (listMax : Nat) (o : Members) : Msg → List (Except Reason Unit)
  | .sync => [checkOf o keyRunId kindU16, checkOf o keyMtu kindU16, checkOf o keyCount kindU16, checkOf o keyWindow kindU16]
  | .syncAck => [checkOf o keyRunId kindU16]
  | .burst => [checkOf o keyRunId kindU16, checkOf o keySeqs (kindList16 listMax)]
  | .report =>
    [checkOf o keyRunId kindU16, checkOf o keyMissing (kindList16 listMax), checkOf o keyReceivedTotal kindU32,
      checkOf o keyCrcFail kindU32, checkOf o keyTimeouts kindU32]
  | .endMsg => [checkOf o keyRunId kindU16]
  | .finalMsg =>
    [checkOf o keyRunId kindU16, checkOf o keyReceived kindU32, checkOf o keyExpected kindU32, checkOf o keyLossPct kindPct,
      checkOf o keyCrcFail kindU32, checkOf o keyTimeouts kindU32]

/-- The reason of the first check that fails (R216). -/
def firstFailure : List (Except Reason Unit) → Option Reason
  | [] => none
  | .ok _ :: rest => firstFailure rest
  | .error r :: _ => some r

end Sys2Proof.Machine
end

