-- ==== Sys2Proof/Certificates/Slice0/Obligations.lean ====
section
/-! DEFINITION. The statements for the provers. "The pending command is w" is BUSY = 1 and PEND = w (10_state.md R56). Where a
clause rests on a rule the spec marks as derived or as general knowledge, or on a log entry, its docstring says so. -/

open Sys2Proof Sys2Proof.Machine

/-! ## Step, decode, encode -/

/-- One step decodes and executes the head of the machine's list of operations, which it consumes; with an empty list the
machine stays as it is. The list and the idle step are the model's choice (log entry 4). -/
def Obligations.StepRunsDecodedOperation : Prop :=
  (∀ (s : State) (c : Code) (rest : List Code), s.moves = c :: rest → step s = exec (decode c) { s with moves := rest }) ∧
    ∀ s : State, s.moves = [] → step s = .next s

/-- Decoding the encoding of a well-formed instruction gives it back, every constructor, every operand. -/
def Obligations.EncodeThenDecodeIsIdentity : Prop := ∀ i : Instr, i.wf = true → decode (encode i) = i

/-- Address bits [1:0] are ignored (R72): an access at `addr` is the access at the aligned word at `addr & 0x3FFFC`, and it is
taken whatever the address. Beside it, derived: every form decodes to a well-formed instruction, whose encoding is the form
itself, a bus access at its aligned address; no command word is folded onto another, and none selects two rows of R101. -/
def Obligations.AccessesActOnTheAlignedWord : Prop :=
  (∀ (a : Addr) (d : Word),
    decode (.busRead a) = decode (.busRead (a &&& 0x3FFFC#18)) ∧
      decode (.busWrite a d) = decode (.busWrite (a &&& 0x3FFFC#18) d) ∧
      encode (decode (.busRead a)) = .busRead (a &&& 0x3FFFC#18) ∧
      encode (decode (.busWrite a d)) = .busWrite (a &&& 0x3FFFC#18) d ∧
      ∀ s : State, (∃ t, exec (decode (.busRead a)) s = .next t) ∧ ∃ t, exec (decode (.busWrite a d)) s = .next t) ∧
  (∀ c : Code, (decode c).wf = true) ∧
  (∀ w : Word, encode (decode (.command w)) = .command w) ∧
  ∀ (w : Word) (r r' : CommandRow), r ∈ commandRows → r' ∈ commandRows → r.selects w = true → r'.selects w = true →
    r.pattern = r'.pattern ∧ r.mask = r'.mask

/-- A word of each kind decodes to the operation the spec's tables give it: the eleven commands and two illegal words of
R101, R102, one address of each write rule of R300, a read, and the opcode-table numbering of log entry 3. -/
def Obligations.SampleWordsDecode : Prop :=
  [0x00#32, 0x01#32, 0x02#32, 0x03#32, 0x04#32, 0x10#32, 0x3111#32, 0x12#32, 0x20#32, 0x21#32, 0x22#32, 0x13#32,
      0x10000#32].map (fun w => decode (.command w)) =
    [.nop, .cntClear, .bufFlush, .evqFlush, .txFlush, .crcInit, .crcByte 0x31, .crcBuf, .frameEncode, .frameDecode, .lineParse,
      .illegal 0x13, .illegal 0x10000] ∧
  [0x00020#18, 0x00024#18, 0x00028#18, 0x0002C#18, 0x00040#18, 0x00044#18, 0x00048#18, 0x0004C#18, 0x00050#18, 0x00054#18,
      0x00080#18, 0x00084#18, 0x100F0#18, 0x20010#18, 0x00000#18, 0x02000#18].map (fun a => decode (.busWrite a 7)) =
    [.wrCtrl 7, .wrStatus 7, .wrIrqEn 7, .wrCmd 7, .wrMtu 7, .wrTxRunId 7, .wrTxSeq 7, .wrTxTotal 7, .wrTxPlen 7,
      .wrDecLen 7, .wrTxData 7, .wrEvqPop 7, .wrPay 0x3C 7, .wrDec 4 7, .wrOther 0 7, .wrOther 0x800 7] ∧
  decode (.busRead 0x00064#18) = .rdAny 0x19 ∧
  decodeTableWord 32 0x3111 = some (.crcByte 0x31) ∧ decodeTableWord 24 0x10000 = some (.wrPay 0 0) ∧
  decodeTableWord 32 0x80000020 = some (.wrCtrl 0x80000000)

/-- The write rule each address selects (R300), and every other address ignores the write. -/
def Obligations.BusWritesSelectTheirRule : Prop :=
  (∀ d : Word,
    decode (.busWrite 0x00020 d) = .wrCtrl d ∧ decode (.busWrite 0x00024 d) = .wrStatus d ∧
      decode (.busWrite 0x00028 d) = .wrIrqEn d ∧ decode (.busWrite 0x0002C d) = .wrCmd d ∧
      decode (.busWrite 0x00040 d) = .wrMtu d ∧ decode (.busWrite 0x00044 d) = .wrTxRunId d ∧
      decode (.busWrite 0x00048 d) = .wrTxSeq d ∧ decode (.busWrite 0x0004C d) = .wrTxTotal d ∧
      decode (.busWrite 0x00050 d) = .wrTxPlen d ∧ decode (.busWrite 0x00054 d) = .wrDecLen d ∧
      decode (.busWrite 0x00080 d) = .wrTxData d ∧ decode (.busWrite 0x00084 d) = .wrEvqPop d) ∧
    (∀ (k : BitVec 14) (l : BitVec 2) (d : Word),
      decode (.busWrite (0b01#2 ++ k ++ l) d) = .wrPay k d ∧ decode (.busWrite (0b10#2 ++ k ++ l) d) = .wrDec k d) ∧
    ∀ (k : BitVec 16) (l : BitVec 2) (d : Word) (s : State),
      (4 * k.toNat < 0x10000 ∨ 0x30000 ≤ 4 * k.toNat) →
      4 * k.toNat ∉ [0x020, 0x024, 0x028, 0x02C, 0x040, 0x044, 0x048, 0x04C, 0x050, 0x054, 0x080, 0x084] →
      decode (.busWrite (k ++ l) d) = .wrOther k d ∧ exec (.wrOther k d) s = .next s

/-! ## Commands: housekeeping, illegal words, CRC -/

/-- The five housekeeping commands (R304, R305, R307, R308, R310): each, when it is the pending command, completes with OK and
exactly its effect; the whole next state is given. -/
def Obligations.HousekeepingCommandsComplete : Prop :=
  ∀ s : State, s.blk.busy = true →
    (s.blk.pend = 0x00 → exec .nop s = .next (s.withBlk (completedWith s.blk 0x00010000))) ∧
    (s.blk.pend = 0x01 →
      exec .cntClear s = .next (s.withBlk (completedWith { s.blk with cnt := ⟨0, 0, 0, 0, 0, 0⟩ } 0x00010100))) ∧
    (s.blk.pend = 0x02 → exec .bufFlush s = .next (s.withBlk (completedWith { s.blk with sb := [] } 0x00010200))) ∧
    (s.blk.pend = 0x03 → exec .evqFlush s = .next (s.withBlk (completedWith { s.blk with evq := [] } 0x00010300))) ∧
    (s.blk.pend = 0x04 → exec .txFlush s = .next (s.withBlk (completedWith { s.blk with txf := [] } 0x00010400)))

/-- An illegal word (R320): a word that selects no row of R101 decodes to it, and its completion writes only the three outputs,
with CODE 0x06 and OPC `w[7:0]`; the rule's two examples. -/
def Obligations.IllegalWordCompletes : Prop :=
  (∀ (s : State) (w : Word), (∀ r ∈ commandRows, w &&& r.mask ≠ r.pattern) → s.blk.busy = true → s.blk.pend = w →
    decode (.command w) = .illegal w ∧
      exec (.illegal w) s = .next (s.withBlk (completedWith s.blk (0x00010006 ||| (w &&& 0xFF) <<< 8)))) ∧
    (0x00010006#32 ||| (0x00000013#32 &&& 0xFF) <<< 8) = 0x00011306 ∧
    (0x00010006#32 ||| (0x00010000#32 &&& 0xFF) <<< 8) = 0x00010006

/-- CRC_INIT, CRC_BYTE and CRC_BUF (R153, R154, R155): the whole next state of each when it is pending, what
`DEC[0 .. DEC_LEN)` is, the corner cases and the examples their rules give. -/
def Obligations.CrcCommandsComplete : Prop :=
  (∀ s : State, s.blk.busy = true →
    (s.blk.pend = 0x10 →
      exec .crcInit s = .next (s.withBlk (completedWith { s.blk with crcState := 0xFFFFFFFF } 0x00011000))) ∧
    (∀ b : Byte, s.blk.pend = (0#16 ++ b ++ 0x11#8 : BitVec 32) →
      exec (.crcByte b) s =
        .next (s.withBlk (completedWith { s.blk with crcState := crcUpdate s.blk.crcState b } 0x00011100))) ∧
    (s.blk.pend = 0x12 →
      exec .crcBuf s = .next (s.withBlk
        (completedWith { s.blk with crcState := crcRun s.blk.crcState s.blk.decSlice } 0x00011200)))) ∧
  (∀ w : Word, w.extractLsb' 0 8 = 0x11#8 → w.extractLsb' 16 16 ≠ 0#16 → decode (.command w) = .illegal w) ∧
  (∀ b : Block, b.decSlice.length = b.decLen.toNat ∧
    (∀ i, i < b.decLen.toNat → b.decSlice[i]? = some (b.mem.read (0x20000 + i))) ∧
    (b.decLen = 0 → crcRun b.crcState b.decSlice = b.crcState)) ∧
  crcUpdate 0xFFFFFFFF 0x31 = 0x7C231048 ∧ crcUpdate 0xFFFFFFFF 0x00 = 0x2DFD1072 ∧
  (0x2DFD1072#32 ^^^ 0xFFFFFFFF) = 0xD202EF8D ∧
  crcRun 0xFFFFFFFF [0x31, 0x32, 0x33, 0x34, 0x35, 0x36, 0x37, 0x38, 0x39] ^^^ 0xFFFFFFFF = 0xCBF43926

/-- The three functions of R151: `crc_update` folds the byte in and shifts eight times, `crc_run` is the left fold with `s[0]`
first, `crc32` starts at 0xFFFFFFFF and ends with the complement. Beside them, derived (R152): pieces may be fed one after
the other, and the CRC of no bytes is 0. -/
def Obligations.CrcFunctionsByTheirDefinition : Prop :=
  (∀ (c : Word) (b : Byte),
    crcUpdate c b =
      (List.range 8).foldl (fun c _ => if c.getLsbD 0 then (c >>> 1) ^^^ 0xEDB88320 else c >>> 1) (c ^^^ b.setWidth 32)) ∧
    (∀ c : Word, crcRun c [] = c) ∧ (∀ (c : Word) (b : Byte) (s : Bytes), crcRun c (b :: s) = crcRun (crcUpdate c b) s) ∧
    (∀ s : Bytes, crc32 s = crcRun 0xFFFFFFFF s ^^^ 0xFFFFFFFF) ∧
    crc32 [] = 0 ∧ ∀ (c : Word) (s t : Bytes), crcRun (crcRun c s) t = crcRun c (s ++ t)

/-- Changing one byte of a sequence, in particular flipping one bit of it, changes its CRC32. The rule (R158) is the spec's
own general knowledge and names single bits; the statement covers every change of one byte. -/
def Obligations.OneChangedByteChangesCrc : Prop :=
  ∀ (s t : Bytes) (a b : Byte), a ≠ b → crc32 (s ++ a :: t) ≠ crc32 (s ++ b :: t)

/-! ## Frame codec -/

/-- FRAME_ENCODE (R178, R179): when it is pending, with TX_PLEN = MTU - 14 and room for the frame it appends the encoded frame,
sets ENC_CRC to its checksum and completes with OK; with another TX_PLEN it appends nothing and completes with
InvalidPayloadSize, whatever the FIFO holds; a frame that does not fit is held: neither the ENGINE's step nor the command's
own changes anything, and BUSY stays 1. What `PAY[0 .. MTU-14)` is, and the rule's example. The condition of the hold is
R180's; that a step which is not enabled changes nothing is the model's choice (log entry 4). -/
def Obligations.FrameEncodeCompletes : Prop :=
  (∀ s : State, s.blk.busy = true → s.blk.pend = 0x20 →
    (s.blk.txPlen.toNat = s.blk.mtu.toNat - 14 → s.blk.mtu.toNat ≤ s.build.txFifoDepth - s.blk.txf.length →
      exec .frameEncode s = .next (s.withBlk (completedWith
        { s.blk with
          txf := s.blk.txf ++ encodeFrame s.blk.txRunId s.blk.txSeq s.blk.txTotal s.blk.paySlice s.blk.mtu.toNat
          encCrc := rdLE32 (encodeFrame s.blk.txRunId s.blk.txSeq s.blk.txTotal s.blk.paySlice s.blk.mtu.toNat)
            (s.blk.mtu.toNat - 4) } 0x00012000))) ∧
    (s.blk.txPlen.toNat ≠ s.blk.mtu.toNat - 14 →
      exec .frameEncode s = .next (s.withBlk (completedWith s.blk 0x00012001))) ∧
    (s.blk.txPlen.toNat = s.blk.mtu.toNat - 14 → s.build.txFifoDepth - s.blk.txf.length < s.blk.mtu.toNat →
      exec .frameEncode s = .next s ∧ exec .engineComplete s = .next s)) ∧
  (∀ b : Block, b.paySlice.length = b.mtu.toNat - 14 ∧
    ∀ i, i < b.mtu.toNat - 14 → b.paySlice[i]? = some (b.mem.read (0x10000 + i))) ∧
  encodeFrame 0xBEEF 0x0102 0x0304 [1, 2, 3, 4, 5, 6] 20 =
    [0x5A, 0xA5, 0xEF, 0xBE, 0x02, 0x01, 0x04, 0x03, 0x06, 0x00, 0x01, 0x02, 0x03, 0x04, 0x05, 0x06, 0xE6, 0x5B, 0xD3, 0xCA]

/-- FRAME_DECODE (R181): when it is pending it writes RES on success and on failure, and completes with the decode's code; the
whole next state of each, the corner cases and the example of the rule. -/
def Obligations.FrameDecodeCompletes : Prop :=
  (∀ s : State, s.blk.busy = true → s.blk.pend = 0x21 →
    (∀ f, decodeFrame s.blk.decSlice s.blk.mtu.toNat = .ok f →
      exec .frameDecode s = .next (s.withBlk (completedWith { s.blk with res := .frame f } 0x00012100))) ∧
    (decodeFrame s.blk.decSlice s.blk.mtu.toNat = .error .badMagic →
      exec .frameDecode s = .next (s.withBlk (completedWith { s.blk with res := .frameError .badMagic } 0x00012102))) ∧
    (decodeFrame s.blk.decSlice s.blk.mtu.toNat = .error .badLength →
      exec .frameDecode s = .next (s.withBlk (completedWith { s.blk with res := .frameError .badLength } 0x00012103))) ∧
    (decodeFrame s.blk.decSlice s.blk.mtu.toNat = .error .checksumMismatch →
      exec .frameDecode s =
        .next (s.withBlk (completedWith { s.blk with res := .frameError .checksumMismatch } 0x00012104)))) ∧
  (∀ b : Block,
    (b.decLen.toNat ≤ 1 → decodeFrame b.decSlice b.mtu.toNat = .error .badMagic) ∧
    ([0x5A, 0xA5] <+: b.decSlice → b.decLen ≠ b.mtu → decodeFrame b.decSlice b.mtu.toNat = .error .badLength) ∧
    ([0x5A, 0xA5] <+: b.decSlice → b.decLen = b.mtu → (rdLE16 b.decSlice 8).toNat ≠ b.mtu.toNat - 14 →
      decodeFrame b.decSlice b.mtu.toNat = .error .badLength)) ∧
  decodeFrame [0x5A, 0xA5, 0xEF, 0xBE, 0x02, 0x01, 0x04, 0x03, 0x06, 0x00, 0x01, 0x02, 0x03, 0x04, 0x05, 0x06,
      0xE6, 0x5B, 0xD3, 0xCA] 20 = .ok ⟨0xBEEF, 0x0102, 0x0304, 6, 0xCAD35BE6⟩

/-- `decode_frame` (R171-R176): its checks in order, the first failure reported, and on success the header fields and the stored
checksum; the five cases cover every slice. -/
def Obligations.DecodeFrameChecksInOrder : Prop :=
  ∀ (s : Bytes) (mtu : Nat), 14 ≤ mtu →
    (¬ [0x5A, 0xA5] <+: s → decodeFrame s mtu = .error .badMagic) ∧
    ([0x5A, 0xA5] <+: s → s.length ≠ mtu → decodeFrame s mtu = .error .badLength) ∧
    ([0x5A, 0xA5] <+: s → s.length = mtu → (rdLE16 s 8).toNat ≠ mtu - 14 → decodeFrame s mtu = .error .badLength) ∧
    ([0x5A, 0xA5] <+: s → s.length = mtu → (rdLE16 s 8).toNat = mtu - 14 →
      rdLE32 s (mtu - 4) ≠ crc32 (s.take (mtu - 4)) → decodeFrame s mtu = .error .checksumMismatch) ∧
    ([0x5A, 0xA5] <+: s → s.length = mtu → (rdLE16 s 8).toNat = mtu - 14 →
      rdLE32 s (mtu - 4) = crc32 (s.take (mtu - 4)) →
      decodeFrame s mtu = .ok ⟨rdLE16 s 2, rdLE16 s 4, rdLE16 s 6, rdLE16 s 8, rdLE32 s (mtu - 4)⟩)

/-- The wire format of an encoded frame (R105, R106, R107, R170): exactly `mtu` bytes, 0x5A then 0xA5, every field at its offset
in little-endian order, the payload, and the checksum of everything before it. -/
def Obligations.EncodedFrameLayout : Prop :=
  ∀ (runId seq total : Half) (payload : Bytes) (mtu : Nat), 14 ≤ mtu → mtu ≤ 65535 → payload.length = mtu - 14 →
    (encodeFrame runId seq total payload mtu).length = mtu ∧
    (encodeFrame runId seq total payload mtu).take 2 = [0x5A, 0xA5] ∧
    rdLE16 (encodeFrame runId seq total payload mtu) 0 = 0xA55A ∧
    rdLE16 (encodeFrame runId seq total payload mtu) 2 = runId ∧
    rdLE16 (encodeFrame runId seq total payload mtu) 4 = seq ∧
    rdLE16 (encodeFrame runId seq total payload mtu) 6 = total ∧
    (rdLE16 (encodeFrame runId seq total payload mtu) 8).toNat = mtu - 14 ∧
    ((encodeFrame runId seq total payload mtu).drop 10).take (mtu - 14) = payload ∧
    rdLE32 (encodeFrame runId seq total payload mtu) (mtu - 4) =
      crc32 ((encodeFrame runId seq total payload mtu).take (mtu - 4)) ∧
    (encodeFrame runId seq total payload mtu).drop (mtu - 4) =
      le32 (crc32 ((encodeFrame runId seq total payload mtu).take (mtu - 4)))

/-- Round trip: decoding an encoded frame gives its fields back (R182, marked derived). -/
def Obligations.DecodeOfEncodedFrame : Prop :=
  ∀ (runId seq total : Half) (payload : Bytes) (mtu : Nat), 14 ≤ mtu → mtu ≤ 65535 → payload.length = mtu - 14 →
    decodeFrame (encodeFrame runId seq total payload mtu) mtu =
      .ok ⟨runId, seq, total, BitVec.ofNat 16 (mtu - 14), crc32 (frameHead runId seq total payload mtu)⟩

/-- Flipping any one bit of an encoded frame makes the decode fail, with the error its byte gives (R183, marked derived;
90_conflicts.md C9). -/
def Obligations.FlippedBitOfFrameIsDetected : Prop :=
  ∀ (runId seq total : Half) (payload : Bytes) (mtu i j : Nat), 14 ≤ mtu → mtu ≤ 65535 → payload.length = mtu - 14 →
    i < mtu → j < 8 →
    decodeFrame ((encodeFrame runId seq total payload mtu).modify i (· ^^^ (1#8 <<< j))) mtu =
      .error (if i < 2 then .badMagic else if i = 8 ∨ i = 9 then .badLength else .checksumMismatch)

/-! ## Control lines -/

/-- LINE_PARSE (R218): when it is pending it writes RES on success and on failure; the whole next state of each, the corner cases
and the example of the rule. -/
def Obligations.LineParseCompletes : Prop :=
  (∀ s : State, s.blk.busy = true → s.blk.pend = 0x22 →
    (∀ c, parseLine s.build.listMax s.blk.decSlice = .ok c →
      exec .lineParse s = .next (s.withBlk (completedWith { s.blk with res := .control c } 0x00012200))) ∧
    ∀ r, parseLine s.build.listMax s.blk.decSlice = .error r →
      exec .lineParse s = .next (s.withBlk (completedWith { s.blk with res := .lineError r } 0x00012205))) ∧
  (∀ (b : Block) (n : Nat), b.decLen = 0 → parseLine n b.decSlice = .error .noTerminator) ∧
  (∀ (n : Nat) (a b : Bytes), b ≠ [] → parseLine n (a ++ 0x0A :: b) = .error .noTerminator) ∧
  (∀ (n : Nat) (ws l : Bytes) (c : Control), (∀ b ∈ ws, b = 0x20 ∨ b = 0x09 ∨ b = 0x0D) → parseLine n l = .ok c →
    parseLine n (ws ++ l) = .ok c) ∧
  ∀ n : Nat, parseLine n
    [0x7B, 0x22, 0x74, 0x79, 0x70, 0x65, 0x22, 0x3A, 0x22, 0x45, 0x4E, 0x44, 0x22, 0x2C, 0x22, 0x72, 0x75, 0x6E, 0x5F, 0x69,
      0x64, 0x22, 0x3A, 0x34, 0x38, 0x38, 0x37, 0x39, 0x7D, 0x0A] = .ok ⟨.endMsg, 0xBEEF, 0, 0, 0, 0, 0, []⟩

/-- The parser accepts exactly the bodies the ABNF of R202 derives, with the members they denote (R203, R205). The grammar is
the spec's own general knowledge. -/
def Obligations.ParserAcceptsExactlyTheGrammar : Prop :=
  ∀ (body : Bytes) (ms : Members), parseBody body = some ms ↔ Grammar.LineBody body ms

/-- `parse_line` line by line of its pseudocode (R216): NO_TERMINATOR exactly when the input is not one line ending in LF (R200);
ILLEGAL_BYTE exactly when it is one and some byte of its body is outside HT, CR and printable ASCII (R201); then SYNTAX
when the body is no object, the reason of the message kind, and last the fields'. -/
def Obligations.LineChecksInOrder : Prop :=
  ∀ listMax : Nat,
    (∀ l : Bytes,
      (parseLine listMax l = .error .noTerminator ↔ ¬ ∃ body, l = body ++ [0x0A] ∧ 0x0A ∉ body) ∧
      (parseLine listMax l = .error .illegalByte ↔
        ∃ body, l = body ++ [0x0A] ∧ 0x0A ∉ body ∧
          ∃ b ∈ body, b ≠ 0x09 ∧ b ≠ 0x0D ∧ ¬ (0x20 ≤ b.toNat ∧ b.toNat ≤ 0x7E))) ∧
    ∀ body : Bytes, (∀ b ∈ body, b = 0x09 ∨ b = 0x0D ∨ (0x20 ≤ b.toNat ∧ b.toNat ≤ 0x7E)) →
      (parseBody body = none → parseLine listMax (body ++ [0x0A]) = .error .badSyntax) ∧
      ∀ o, parseBody body = some o →
        (∀ r, msgOf o = .error r → parseLine listMax (body ++ [0x0A]) = .error r) ∧
        ∀ m, msgOf o = .ok m → parseLine listMax (body ++ [0x0A]) = parseFields listMax m o

/-- `lookup` (R205): the last occurrence of a key wins, other keys do not matter, and a name no key equals is absent. -/
def Obligations.LastOccurrenceOfKeyWins : Prop :=
  (∀ (ms : Members) (k : List Half) (v : Json), lookup (ms ++ [(k, v)]) k = some v) ∧
    (∀ (ms : Members) (k k' : List Half) (v : Json), k' ≠ k → lookup (ms ++ [(k', v)]) k = lookup ms k) ∧
    ∀ (ms : Members) (k : List Half), lookup ms k = none ↔ ∀ m ∈ ms, m.1 ≠ k

/-- The field kinds (R208, R209, R210, R214): a value of another JSON kind or number form is FIELD_TYPE, one out of range
FIELD_RANGE, else the field is its value; a list's element forms are checked first, then its count, then the ranges, and
an accepted list is kept as written; `loss_pct` is in hundredths of a percent, truncated, with the rule's examples. -/
def Obligations.FieldKinds : Prop :=
  (∀ v : Json, (∀ t, v = .num t → t.neg = true ∨ t.frac ≠ [] ∨ t.exp = true) →
    kindU16 v = .error .fieldType ∧ kindU32 v = .error .fieldType) ∧
  (∀ t : NumTok, t.neg = false → t.frac = [] → t.exp = false →
    (digitsValue t.int ≤ 65535 → kindU16 (.num t) = .ok (BitVec.ofNat 16 (digitsValue t.int))) ∧
    (65535 < digitsValue t.int → kindU16 (.num t) = .error .fieldRange) ∧
    (digitsValue t.int ≤ 4294967295 → kindU32 (.num t) = .ok (BitVec.ofNat 32 (digitsValue t.int))) ∧
    (4294967295 < digitsValue t.int → kindU32 (.num t) = .error .fieldRange)) ∧
  (∀ listMax : Nat,
    (∀ v : Json, (∀ es, v = .arr es → ∃ e ∈ es, ∀ t, e = .num t → t.neg = true ∨ t.frac ≠ [] ∨ t.exp = true) →
      kindList16 listMax v = .error .fieldType) ∧
    ∀ ts : List NumTok, (∀ t ∈ ts, t.neg = false ∧ t.frac = [] ∧ t.exp = false) →
      (listMax < ts.length → kindList16 listMax (.arr (ts.map .num)) = .error .listOverflow) ∧
      (ts.length ≤ listMax → (∃ t ∈ ts, 65535 < digitsValue t.int) →
        kindList16 listMax (.arr (ts.map .num)) = .error .fieldRange) ∧
      (ts.length ≤ listMax → (∀ t ∈ ts, digitsValue t.int ≤ 65535) →
        kindList16 listMax (.arr (ts.map .num)) = .ok (ts.map fun t => BitVec.ofNat 16 (digitsValue t.int)))) ∧
  (∀ v : Json, (∀ t, v = .num t → t.neg = true ∨ t.exp = true) → kindPct v = .error .fieldType) ∧
  (∀ t : NumTok, t.neg = false → t.exp = false →
    (digitsValue t.int * 100 + 10 * (t.frac[0]?.getD 0) + (t.frac[1]?.getD 0) ≤ 4294967295 →
      kindPct (.num t) =
        .ok (BitVec.ofNat 32 (digitsValue t.int * 100 + 10 * (t.frac[0]?.getD 0) + (t.frac[1]?.getD 0)))) ∧
    (4294967295 < digitsValue t.int * 100 + 10 * (t.frac[0]?.getD 0) + (t.frac[1]?.getD 0) →
      kindPct (.num t) = .error .fieldRange)) ∧
  ([⟨false, [0], [0], false⟩, ⟨false, [1, 0], [0], false⟩, ⟨false, [3, 3], [3, 3, 3, 3, 3, 3], false⟩,
      ⟨false, [1, 0, 0], [], false⟩, ⟨false, [5], [9, 9, 9], false⟩].map fun t => kindPct (.num t)) =
    [.ok 0, .ok 1000, .ok 3333, .ok 10000, .ok 599]

/-- The message kind and its required fields (R206, R207). The key and kind names are the strings the rules print. A required
field that is absent is MISSING_FIELD (R216), else its kind's checks apply to the value `lookup` gives. A `type` that is absent or no string is NO_TYPE, a
string that is none of the six names UNKNOWN_TYPE. The fields are accepted exactly when every required one is present and passes its checks, and
the record's slots are then those fields and 0; else the reason is that of the first failing field in the table's order. -/
def Obligations.MessageRecognition : Prop :=
  ([keyType, keyRunId, keyMtu, keyCount, keyWindow, keySeqs, keyMissing, keyReceivedTotal, keyCrcFail, keyTimeouts, keyReceived,
      keyExpected, keyLossPct] =
    ["type", "run_id", "mtu", "count", "window", "seqs", "missing", "received_total", "crc_fail", "timeouts", "received",
      "expected", "loss_pct"].map asciiUnits) ∧
  ([Msg.sync, .syncAck, .burst, .report, .endMsg, .finalMsg].map Msg.name =
    ["SYNC", "SYNC_ACK", "BURST", "REPORT", "END", "FINAL"].map asciiUnits) ∧
  (∀ (α : Type) (o : Members) (key : List Half) (kind : Json → Except Reason α),
    (lookup o key = none → field o key kind = .error .missingField) ∧
      ∀ v, lookup o key = some v → field o key kind = kind v) ∧
  ∀ (listMax : Nat) (o : Members),
    (msgOf o = .error .noType ↔ ∀ name, lookup o keyType ≠ some (.str name)) ∧
    (∀ name, lookup o keyType = some (.str name) →
      (∀ m : Msg, msgOf o = .ok m ↔ name = m.name) ∧ ((∀ m : Msg, name ≠ m.name) → msgOf o = .error .unknownType)) ∧
    (∀ (m : Msg) (r : Reason), parseFields listMax m o = .error r ↔ firstFailure (requiredFields listMax o m) = some r) ∧
    ∀ (m : Msg) (c : Control), parseFields listMax m o = .ok c ↔
      ∃ r : Half, field o keyRunId kindU16 = .ok r ∧
        match m with
        | .sync => ∃ x y z, field o keyMtu kindU16 = .ok x ∧ field o keyCount kindU16 = .ok y ∧
            field o keyWindow kindU16 = .ok z ∧
            c = ⟨.sync, r, x.setWidth 32, y.setWidth 32, z.setWidth 32, 0, 0, []⟩
        | .syncAck => c = ⟨.syncAck, r, 0, 0, 0, 0, 0, []⟩
        | .burst => ∃ l, field o keySeqs (kindList16 listMax) = .ok l ∧ c = ⟨.burst, r, 0, 0, 0, 0, 0, l⟩
        | .report => ∃ l x y z, field o keyMissing (kindList16 listMax) = .ok l ∧
            field o keyReceivedTotal kindU32 = .ok x ∧ field o keyCrcFail kindU32 = .ok y ∧
            field o keyTimeouts kindU32 = .ok z ∧ c = ⟨.report, r, x, y, z, 0, 0, l⟩
        | .endMsg => c = ⟨.endMsg, r, 0, 0, 0, 0, 0, []⟩
        | .finalMsg => ∃ v w x y z, field o keyReceived kindU32 = .ok v ∧ field o keyExpected kindU32 = .ok w ∧
            field o keyLossPct kindPct = .ok x ∧ field o keyCrcFail kindU32 = .ok y ∧
            field o keyTimeouts kindU32 = .ok z ∧ c = ⟨.finalMsg, r, v, w, x, y, z, []⟩

/-- Every line in canonical form parses to the message it denotes (R217, marked derived); the `loss_pct` of a FINAL line with
every fraction of at least one digit whose truncation to hundredths the message holds. -/
def Obligations.CanonicalLinesParse : Prop :=
  ∀ (listMax : Nat) (c : Control) (frac : List Nat), Script.isMessage listMax c →
    (c.msg = .finalMsg → Script.isFraction c.f2.toNat frac) → parseLine listMax (Script.canonicalLine c frac) = .ok c

/-- Lines and frames do not collide (R184, R219, R220, marked derived): a frame begins with 0x5A, an accepted line with `0x7B` or
whitespace; and what the demultiplexer cuts as a line begins with `0x7B`, has at least 2 bytes and passes the
NO_TERMINATOR and ILLEGAL_BYTE checks. -/
def Obligations.LinesAndFramesDoNotCollide : Prop :=
  (∀ (runId seq total : Half) (payload : Bytes) (mtu : Nat),
    (encodeFrame runId seq total payload mtu).head? = some 0x5A) ∧
  (∀ (listMax : Nat) (l : Bytes) (c : Control), parseLine listMax l = .ok c →
    ∃ b rest, l = b :: rest ∧ (b = 0x7B ∨ b = 0x20 ∨ b = 0x09 ∨ b = 0x0D)) ∧
  ∀ (mtu cap k listMax : Nat) (sb : Bytes), classify mtu cap sb = .line k →
    2 ≤ k + 1 ∧ k + 1 ≤ sb.length ∧ sb.head? = some 0x7B ∧
      parseLine listMax (sb.take (k + 1)) ≠ .error .noTerminator ∧
      parseLine listMax (sb.take (k + 1)) ≠ .error .illegalByte

/-! ## The stream ports and the demultiplexer -/

/-- The two ports. RXPORT (R251): the byte is appended; at or above the cap the oldest bytes are first evicted to below it, each
counted; DEMUX_EN does not matter. TXPORT (R309): the head of TXF goes to the transport; with an empty FIFO the step is not
enabled, and that it then changes nothing is the model's choice (log entry 4). The whole next state of each; `wire` is the
model's record of what the transport was handed (log entry 5). The premise `0 < MTU` is part of the invariant (StepKeepsInvariant). -/
def Obligations.PortStepsMoveOneByte : Prop :=
  (∀ (s : State) (d : Byte), 0 < s.blk.mtu.toNat →
    (s.blk.sb.length < s.blk.mtu.toNat * 150 →
      exec (.rxDeliver d) s = .next (s.withBlk { s.blk with sb := s.blk.sb ++ [d] })) ∧
    (s.blk.mtu.toNat * 150 ≤ s.blk.sb.length →
      exec (.rxDeliver d) s = .next (s.withBlk
        { s.blk with
          sb := s.blk.sb.drop (s.blk.sb.length + 1 - s.blk.mtu.toNat * 150) ++ [d]
          cnt := { s.blk.cnt with
            overflow := s.blk.cnt.overflow + BitVec.ofNat 32 (s.blk.sb.length + 1 - s.blk.mtu.toNat * 150) } }))) ∧
  ∀ s : State,
    (∀ b rest, s.blk.txf = b :: rest →
      exec .txTake s = .next { s with blk := { s.blk with txf := rest }, wire := s.wire ++ [b] }) ∧
    (s.blk.txf = [] → exec .txTake s = .next s)

/-- Bytes leave in the order they entered (R87, marked derived): no operation takes back what the transport has, and only
TX_FLUSH and soft reset drop or reorder what waits. -/
def Obligations.TransmitOrderIsKept : Prop :=
  ∀ (i : Instr) (s t : State), exec i s = .next t →
    s.wire <+: t.wire ∧
      (isSoftReset i = false → ¬ completes .txFlush s.blk i → s.wire ++ s.blk.txf <+: t.wire ++ t.blk.txf)

/-- The DEMUX step (R256): not enabled while DEMUX_EN = 0, EVQ is full or `classify` waits; else the effect the table gives the
action. The whole next state of each. That a step which is not enabled changes nothing is the model's choice (log entry 4). -/
def Obligations.DemuxStepPerformsItsAction : Prop :=
  ∀ s : State,
    (s.blk.demuxEn = false ∨ s.build.evqDepth ≤ s.blk.evq.length ∨ classify s.blk.mtu.toNat s.blk.bufCap s.blk.sb = .wait →
      exec .demuxStep s = .next s) ∧
    (s.blk.demuxEn = true → s.blk.evq.length < s.build.evqDepth →
      (∀ f, classify s.blk.mtu.toNat s.blk.bufCap s.blk.sb = .frameOk f →
        exec .demuxStep s = .next (s.withBlk
          { s.blk with
            sb := s.blk.sb.drop s.blk.mtu.toNat, evq := s.blk.evq ++ [.frame f]
            cnt := { s.blk.cnt with frames := s.blk.cnt.frames + 1 } })) ∧
      (∀ e, classify s.blk.mtu.toNat s.blk.bufCap s.blk.sb = .frameBad e →
        exec .demuxStep s = .next (s.withBlk
          { s.blk with
            sb := s.blk.sb.drop 1, evq := s.blk.evq ++ [.frameError e]
            cnt := { s.blk.cnt with frameErr := s.blk.cnt.frameErr + 1, resync := s.blk.cnt.resync + 1 } })) ∧
      (∀ k, classify s.blk.mtu.toNat s.blk.bufCap s.blk.sb = .line k →
        (∀ c, parseLine s.build.listMax (s.blk.sb.take (k + 1)) = .ok c →
          exec .demuxStep s = .next (s.withBlk
            { s.blk with
              sb := s.blk.sb.drop (k + 1), evq := s.blk.evq ++ [.control c]
              cnt := { s.blk.cnt with control := s.blk.cnt.control + 1 } })) ∧
        (∀ r, parseLine s.build.listMax (s.blk.sb.take (k + 1)) = .error r →
          exec .demuxStep s = .next (s.withBlk
            { s.blk with
              sb := s.blk.sb.drop (k + 1), cnt := { s.blk.cnt with lineErr := s.blk.cnt.lineErr + 1 } }))) ∧
      (classify s.blk.mtu.toNat s.blk.bufCap s.blk.sb ∈ [.dead, .full, .noise] →
        exec .demuxStep s = .next (s.withBlk
          { s.blk with sb := s.blk.sb.drop 1, cnt := { s.blk.cnt with resync := s.blk.cnt.resync + 1 } })))

/-- The action of a front (R255): which front makes the demultiplexer cut a line, call a candidate dead, evict at the cap, or
call the front noise, in terms of the bytes alone. -/
def Obligations.ClassifyByFrontByte : Prop :=
  ∀ (mtu cap : Nat) (sb : Bytes),
    (∀ k, classify mtu cap sb = .line k ↔
      ∃ body rest, sb = 0x7B :: (body ++ 0x0A :: rest) ∧ k = body.length + 1 ∧ ∀ b ∈ body, inAlphabet b = true) ∧
    (classify mtu cap sb = .dead ↔
      ∃ body x rest, sb = 0x7B :: (body ++ x :: rest) ∧ x ≠ 0x0A ∧ inAlphabet x = false ∧
        ∀ b ∈ body, inAlphabet b = true) ∧
    (classify mtu cap sb = .full ↔
      ∃ body, sb = 0x7B :: body ∧ (∀ b ∈ body, inAlphabet b = true) ∧ cap ≤ sb.length) ∧
    (classify mtu cap sb = .noise ↔
      ∃ a rest, sb = a :: rest ∧ a ≠ 0x7B ∧ (a ≠ 0x5A ∨ ∃ b rest', rest = b :: rest' ∧ b ≠ 0xA5)) ∧
    (∀ f, classify mtu cap sb = .frameOk f ↔
      [0x5A, 0xA5] <+: sb ∧ mtu ≤ sb.length ∧ decodeFrame (sb.take mtu) mtu = .ok f) ∧
    ∀ e, classify mtu cap sb = .frameBad e ↔
      [0x5A, 0xA5] <+: sb ∧ mtu ≤ sb.length ∧ decodeFrame (sb.take mtu) mtu = .error e

/-- The demultiplexer waits in exactly four kinds of state (R261, marked derived), and never with a full buffer (R268, marked
derived). -/
def Obligations.DemuxWaitsExactlyThere : Prop :=
  ∀ b : Block, 14 ≤ b.mtu.toNat →
    (b.action = .wait ↔
      b.sb = [] ∨ b.sb = [0x5A] ∨ ([0x5A, 0xA5] <+: b.sb ∧ b.sb.length < b.mtu.toNat) ∨
        (b.sb.head? = some 0x7B ∧ (∀ x ∈ b.sb.tail, inAlphabet x = true) ∧ b.sb.length < b.mtu.toNat * 150)) ∧
    (b.sb.length = b.mtu.toNat * 150 → b.action ≠ .wait)

/-- Bounded progress (R267, marked derived): every DEMUX step that happens consumes input, a frame MTU bytes, a line at least 2,
the rest 1; so as many DEMUX steps as SB has bytes leave the demultiplexer idle, which ends a WAIT_DEMUX. -/
def Obligations.DemuxStepConsumesInput : Prop :=
  ∀ (p : Build) (b : Block), 14 ≤ b.mtu.toNat →
    (b.demuxEnabled p = true →
      ∃ n, 1 ≤ n ∧ n ≤ b.sb.length ∧ (b.demux p).sb = b.sb.drop n ∧
        ((∃ f, b.action = .frameOk f) → n = b.mtu.toNat) ∧ ((∃ k, b.action = .line k) → 2 ≤ n) ∧
        ((∀ f, b.action ≠ .frameOk f) → (∀ k, b.action ≠ .line k) → n = 1)) ∧
    (Script.demuxRun p b.sb.length b).demuxEnabled p = false

/-- Below the cap a delivery does not change what the demultiplexer is about to do, and the two steps commute (R270, marked
derived): the order of RXPORT and DEMUX does not matter there. -/
def Obligations.DeliveryAndDemuxCommuteBelowCap : Prop :=
  ∀ (p : Build) (b : Block) (d : Byte), 14 ≤ b.mtu.toNat → b.sb.length < b.bufCap → b.demuxEnabled p = true →
    (b.rxDeliver d p).demuxEnabled p = true ∧ (b.rxDeliver d p).action = b.action ∧
      (b.rxDeliver d p).demux p = (b.demux p).rxDeliver d p

/-- Resynchronisation (R269, marked derived): with noise `N` of any length before a valid frame, and room in EVQ at each step
until that frame is consumed, the demultiplexer, never waiting, comes in at most `len(N)` steps to that frame at the front,
and the next step consumes and emits it, unless it meets an accidental frame inside `N` on the way. -/
def Obligations.NoiseBeforeFrameIsSkipped : Prop :=
  ∀ (p : Build) (b : Block) (noise payload rest : Bytes) (runId seq total : Half), 14 ≤ b.mtu.toNat →
    payload.length = b.mtu.toNat - 14 → b.demuxEn = true →
    b.sb = noise ++ encodeFrame runId seq total payload b.mtu.toNat ++ rest →
    (∀ i, i ≤ noise.length → b.mtu.toNat + rest.length ≤ (Script.demuxRun p i b).sb.length →
      (Script.demuxRun p i b).evq.length < p.evqDepth) →
    ∃ j ≤ noise.length, (∀ i ≤ j, (Script.demuxRun p i b).demuxEnabled p = true) ∧
      (((Script.demuxRun p j b).sb = encodeFrame runId seq total payload b.mtu.toNat ++ rest ∧
          (Script.demuxRun p j b).action =
            .frameOk ⟨runId, seq, total, BitVec.ofNat 16 (b.mtu.toNat - 14),
              crc32 (frameHead runId seq total payload b.mtu.toNat)⟩ ∧
          (Script.demuxRun p (j + 1) b).sb = rest ∧
          (Script.demuxRun p (j + 1) b).evq = (Script.demuxRun p j b).evq ++
            [.frame ⟨runId, seq, total, BitVec.ofNat 16 (b.mtu.toNat - 14),
              crc32 (frameHead runId seq total payload b.mtu.toNat)⟩]) ∨
        ∃ q f, 0 < q.length ∧ q <:+ noise ∧
          (Script.demuxRun p j b).sb = q ++ encodeFrame runId seq total payload b.mtu.toNat ++ rest ∧
          (Script.demuxRun p j b).action = .frameOk f)

/-! ## Host writes -/

/-- CMD (R302): accepted while no command is pending, the word unchecked; refused with ERR_CMD_OVR while one is. -/
def Obligations.CmdWriteOffersWord : Prop :=
  ∀ (s : State) (d : Word),
    (s.blk.busy = false → exec (.wrCmd d) s = .next (s.withBlk { s.blk with pend := d, busy := true })) ∧
    (s.blk.busy = true →
      exec (.wrCmd d) s = .next (s.withBlk { s.blk with sticky := { s.blk.sticky with errCmdOvr := true } }))

/-- CTRL (R313) and the soft reset (R381): with bit 31 every component takes its soft-reset value, PAY and DEC keep their bytes,
whatever bit 0 and BUSY are; else DEMUX_EN takes bit 0 and nothing else changes. -/
def Obligations.CtrlWriteResetsOrEnables : Prop :=
  ∀ (s : State) (d : Word),
    (d.getLsbD 31 = true →
      exec (.wrCtrl d) s = .next (s.withBlk
        { sb := [], evq := [], txf := [], mem := s.blk.mem, busy := false, pend := 0, crcState := 0xFFFFFFFF
          res := .none, demuxEn := false, irqEn := 0, mtu := BitVec.ofNat 16 s.build.mtuMax, txRunId := 0, txSeq := 0
          txTotal := 0, txPlen := 0, decLen := 0, cmdResult := 0, encCrc := 0
          sticky := ⟨false, false, false, false, false, false⟩, cnt := ⟨0, 0, 0, 0, 0, 0⟩ })) ∧
    (d.getLsbD 31 = false → exec (.wrCtrl d) s = .next (s.withBlk { s.blk with demuxEn := d.getLsbD 0 }))

/-- STATUS (R312) clears exactly the sticky bits written 1, and IRQ_EN (R314) takes `d[2:0]`; nothing else changes. -/
def Obligations.StatusAndIrqEnWrites : Prop :=
  ∀ (s : State) (d : Word),
    exec (.wrStatus d) s = .next (s.withBlk
      { s.blk with
        sticky :=
          { cmdDone := s.blk.sticky.cmdDone && !d.getLsbD 8
            errCmdOvr := s.blk.sticky.errCmdOvr && !d.getLsbD 9
            errWrBusy := s.blk.sticky.errWrBusy && !d.getLsbD 10
            errCfg := s.blk.sticky.errCfg && !d.getLsbD 11
            errTxOvf := s.blk.sticky.errTxOvf && !d.getLsbD 12
            errEvqUnf := s.blk.sticky.errEvqUnf && !d.getLsbD 13 } }) ∧
    exec (.wrIrqEn d) s = .next (s.withBlk { s.blk with irqEn := d.extractLsb' 0 3 })

/-- MTU (R315): refused with ERR_WR_BUSY while BUSY = 1; ERR_CFG while DEMUX_EN = 1 or for an illegal value; else the new MTU with
SB trimmed to its cap from the front and the evicted bytes counted; `d[31:16]` does not matter. -/
def Obligations.MtuWriteIsWarl : Prop :=
  ∀ (s : State) (d : Word) (m : Half), m = d.extractLsb' 0 16 →
    (s.blk.busy = true →
      exec (.wrMtu d) s = .next (s.withBlk { s.blk with sticky := { s.blk.sticky with errWrBusy := true } })) ∧
    (s.blk.busy = false → s.blk.demuxEn = true →
      exec (.wrMtu d) s = .next (s.withBlk { s.blk with sticky := { s.blk.sticky with errCfg := true } })) ∧
    (s.blk.busy = false → m.toNat < 14 ∨ s.build.mtuMax < m.toNat →
      exec (.wrMtu d) s = .next (s.withBlk { s.blk with sticky := { s.blk.sticky with errCfg := true } })) ∧
    (s.blk.busy = false → s.blk.demuxEn = false → 14 ≤ m.toNat → m.toNat ≤ s.build.mtuMax →
      exec (.wrMtu d) s = .next (s.withBlk
        { s.blk with
          mtu := m
          sb := s.blk.sb.drop (s.blk.sb.length - m.toNat * 150)
          cnt := { s.blk.cnt with
            overflow := s.blk.cnt.overflow + BitVec.ofNat 32 (s.blk.sb.length - m.toNat * 150) } }))

/-- TX_RUN_ID, TX_SEQ, TX_TOTAL, TX_PLEN (R316) take `d[15:0]`, and DEC_LEN (R317) takes it unless it is above DEC_BUF_SIZE, which
sets ERR_CFG; while BUSY = 1 each is refused with ERR_WR_BUSY; nothing else changes. -/
def Obligations.OperandRegisterWrites : Prop :=
  ∀ (s : State) (d : Word) (m : Half), m = d.extractLsb' 0 16 →
    (s.blk.busy = true → ∀ i ∈ [Instr.wrTxRunId d, .wrTxSeq d, .wrTxTotal d, .wrTxPlen d, .wrDecLen d],
      exec i s = .next (s.withBlk { s.blk with sticky := { s.blk.sticky with errWrBusy := true } })) ∧
    (s.blk.busy = false →
      exec (.wrTxRunId d) s = .next (s.withBlk { s.blk with txRunId := m }) ∧
      exec (.wrTxSeq d) s = .next (s.withBlk { s.blk with txSeq := m }) ∧
      exec (.wrTxTotal d) s = .next (s.withBlk { s.blk with txTotal := m }) ∧
      exec (.wrTxPlen d) s = .next (s.withBlk { s.blk with txPlen := m }) ∧
      (m.toNat ≤ s.build.mtuMax → exec (.wrDecLen d) s = .next (s.withBlk { s.blk with decLen := m })) ∧
      (s.build.mtuMax < m.toNat →
        exec (.wrDecLen d) s = .next (s.withBlk { s.blk with sticky := { s.blk.sticky with errCfg := true } })))

/-- TX_DATA (R306) appends `d[7:0]`, or drops it with ERR_WR_BUSY while BUSY = 1, else with ERR_TX_OVF when the FIFO is full;
EVQ_POP (R311) drops the head, or sets ERR_EVQ_UNF when the queue is empty, whatever the data and BUSY. -/
def Obligations.QueueWrites : Prop :=
  ∀ (s : State) (d : Word),
    (s.blk.busy = true →
      exec (.wrTxData d) s = .next (s.withBlk { s.blk with sticky := { s.blk.sticky with errWrBusy := true } })) ∧
    (s.blk.busy = false → s.blk.txf.length ≠ s.build.txFifoDepth →
      exec (.wrTxData d) s = .next (s.withBlk { s.blk with txf := s.blk.txf ++ [d.extractLsb' 0 8] })) ∧
    (s.blk.busy = false → s.blk.txf.length = s.build.txFifoDepth →
      exec (.wrTxData d) s = .next (s.withBlk { s.blk with sticky := { s.blk.sticky with errTxOvf := true } })) ∧
    (s.blk.evq = [] →
      exec (.wrEvqPop d) s = .next (s.withBlk { s.blk with sticky := { s.blk.sticky with errEvqUnf := true } })) ∧
    (∀ r rest, s.blk.evq = r :: rest → exec (.wrEvqPop d) s = .next (s.withBlk { s.blk with evq := rest }))

/-- The PAY and DEC windows (R73, R74, R318). A write: refused with ERR_WR_BUSY while BUSY = 1, else each of the word's four lanes
inside the buffer takes its byte, a lane at or beyond the buffer's size is ignored, every other byte of both buffers and
all other state is unchanged. A read, at any time: each lane is the buffer's byte, little-endian, or 0 at or beyond its
size. The premise on the memory's form is part of the invariant (StepKeepsInvariant). -/
def Obligations.WindowAccessesTheirLanes : Prop :=
  (∀ (s : State) (k : BitVec 14) (d : Word),
    (s.blk.busy = true →
      exec (.wrPay k d) s = .next (s.withBlk { s.blk with sticky := { s.blk.sticky with errWrBusy := true } }) ∧
        exec (.wrDec k d) s = .next (s.withBlk { s.blk with sticky := { s.blk.sticky with errWrBusy := true } })) ∧
    (s.blk.busy = false → s.blk.mem.wf →
      (∃ m : Memory, exec (.wrPay k d) s = .next (s.withBlk { s.blk with mem := m }) ∧
        (∀ j, j < 4 → 4 * k.toNat + j < s.build.mtuMax - 14 →
          m.read (0x10000 + 4 * k.toNat + j) = d.extractLsb' (8 * j) 8) ∧
        ∀ a, (∀ j, j < 4 → 4 * k.toNat + j < s.build.mtuMax - 14 → a ≠ 0x10000 + 4 * k.toNat + j) →
          m.read a = s.blk.mem.read a) ∧
      ∃ m : Memory, exec (.wrDec k d) s = .next (s.withBlk { s.blk with mem := m }) ∧
        (∀ j, j < 4 → 4 * k.toNat + j < s.build.mtuMax →
          m.read (0x20000 + 4 * k.toNat + j) = d.extractLsb' (8 * j) 8) ∧
        ∀ a, (∀ j, j < 4 → 4 * k.toNat + j < s.build.mtuMax → a ≠ 0x20000 + 4 * k.toNat + j) →
          m.read a = s.blk.mem.read a)) ∧
  ∀ (p : Build) (b : Block) (k : BitVec 14),
    (∃ v, readsAs p b (0x10000 + 4 * k.toNat) v ∧ ∀ j, j < 4 →
      v.extractLsb' (8 * j) 8 =
        if 4 * k.toNat + j < p.mtuMax - 14 then b.mem.read (0x10000 + 4 * k.toNat + j) else 0) ∧
    ∃ v, readsAs p b (0x20000 + 4 * k.toNat) v ∧ ∀ j, j < 4 →
      v.extractLsb' (8 * j) 8 = if 4 * k.toNat + j < p.mtuMax then b.mem.read (0x20000 + 4 * k.toNat + j) else 0

/-- Every guarded register and window other than CMD refuses a write while BUSY = 1 (R319): it sets ERR_WR_BUSY and changes
nothing else. -/
def Obligations.GuardedWritesRefusedWhileBusy : Prop :=
  ∀ (i : Instr) (s : State), s.blk.busy = true →
    (∃ d, i = .wrMtu d ∨ i = .wrTxRunId d ∨ i = .wrTxSeq d ∨ i = .wrTxTotal d ∨ i = .wrTxPlen d ∨ i = .wrDecLen d ∨
      i = .wrTxData d ∨ (∃ k, i = .wrPay k d) ∨ ∃ k, i = .wrDec k d) →
    exec i s = .next (s.withBlk { s.blk with sticky := { s.blk.sticky with errWrBusy := true } })

/-! ## Host reads -/

/-- What every register of the register map reads as (R23-R50): constants and parameters, stored fields, levels, 0 for a
write-only register; and a write to a read-only register is ignored. STATUS has a statement of its own. -/
def Obligations.RegistersReadTheirValues : Prop :=
  (∀ (p : Build), p.Legal → ∀ b : Block,
      readsAs p b 0x000 0x52464231 ∧
      readsAs p b 0x004 0x00010000 ∧
      readsAs p b 0x008 ((BitVec.ofNat 16 p.listMax ++ BitVec.ofNat 16 p.mtuMax : BitVec 32)) ∧
      readsAs p b 0x00C (BitVec.ofNat 32 p.evqDepth) ∧
      readsAs p b 0x010 (BitVec.ofNat 32 p.txFifoDepth) ∧
      readsAs p b 0x020 (if b.demuxEn then 1 else 0) ∧
      readsAs p b 0x028 (b.irqEn.setWidth 32) ∧
      readsAs p b 0x02C 0 ∧
      readsAs p b 0x030 b.cmdResult ∧
      readsAs p b 0x040 (b.mtu.setWidth 32) ∧
      readsAs p b 0x044 (b.txRunId.setWidth 32) ∧
      readsAs p b 0x048 (b.txSeq.setWidth 32) ∧
      readsAs p b 0x04C (b.txTotal.setWidth 32) ∧
      readsAs p b 0x050 (b.txPlen.setWidth 32) ∧
      readsAs p b 0x054 (b.decLen.setWidth 32) ∧
      readsAs p b 0x058 b.encCrc ∧
      readsAs p b 0x060 (b.crcState ^^^ 0xFFFFFFFF) ∧
      readsAs p b 0x064 b.crcState ∧
      readsAs p b 0x070 (BitVec.ofNat 32 b.sb.length) ∧
      readsAs p b 0x074 (BitVec.ofNat 32 (b.mtu.toNat * 150)) ∧
      readsAs p b 0x078 (BitVec.ofNat 32 b.evq.length) ∧
      readsAs p b 0x07C (BitVec.ofNat 32 b.txf.length) ∧
      readsAs p b 0x080 0 ∧
      readsAs p b 0x084 0 ∧
      readsAs p b 0x0A0 b.cnt.frames ∧
      readsAs p b 0x0A4 b.cnt.control ∧
      readsAs p b 0x0A8 b.cnt.frameErr ∧
      readsAs p b 0x0AC b.cnt.lineErr ∧
      readsAs p b 0x0B0 b.cnt.resync ∧
      readsAs p b 0x0B4 b.cnt.overflow) ∧
  ∀ (o : BitVec 18) (d : Word) (s : State),
    o ∈ [0x000#18, 0x004#18, 0x008#18, 0x00C#18, 0x010#18, 0x030#18, 0x058#18, 0x060#18, 0x064#18, 0x070#18, 0x074#18,
      0x078#18, 0x07C#18, 0x0A0#18, 0x0A4#18, 0x0A8#18, 0x0AC#18, 0x0B0#18, 0x0B4#18] →
    exec (decode (.busWrite o d)) s = .next s

/-- Reserved offsets of the register page (R26) and the reserved regions of the address map read 0 and ignore writes. -/
def Obligations.ReservedAddressesAreInert : Prop :=
  ∀ (k : BitVec 16) (a : Nat), a = 4 * k.toNat →
    ((0x014 ≤ a ∧ a ≤ 0x01C) ∨ (0x034 ≤ a ∧ a ≤ 0x03C) ∨ a = 0x05C ∨ (0x068 ≤ a ∧ a ≤ 0x06C) ∨ (0x088 ≤ a ∧ a ≤ 0x09C) ∨
      (0x0B8 ≤ a ∧ a ≤ 0xFFC) ∨ (0x03000 ≤ a ∧ a < 0x10000) ∨ 0x30000 ≤ a) →
    (∀ (p : Build) (b : Block), readsAs p b a 0) ∧
      ∀ (l : BitVec 2) (d : Word) (s : State), exec (decode (.busWrite (k ++ l) d)) s = .next s

/-- Every bit of the STATUS word (R29, R30): the live bits by their formulas, the sticky bits in their places, the rest 0; a write
outside bits 8 to 13 changes nothing. -/
def Obligations.StatusBitsByFormula : Prop :=
  (∀ s : State, ∀ d : Word, d &&& 0x00003F00 = 0 → exec (.wrStatus d) s = .next s) ∧
  ∀ (p : Build) (b : Block),
    readsAs p b 0x024 (b.status p) ∧
    (b.status p).getLsbD 0 = b.busy ∧
    (b.status p).getLsbD 1 = decide (0 < b.evq.length) ∧
    (b.status p).getLsbD 2 = decide (b.evq.length = p.evqDepth) ∧
    (b.status p).getLsbD 3 = decide (b.txf.length = 0) ∧
    (b.status p).getLsbD 4 = decide (b.txf.length = p.txFifoDepth) ∧
    (b.status p).getLsbD 5 = decide (b.sb.length = b.mtu.toNat * 150) ∧
    ((b.status p).getLsbD 6 = true ↔
      ¬ (b.demuxEn = true ∧ b.evq.length < p.evqDepth ∧ classify b.mtu.toNat (b.mtu.toNat * 150) b.sb ≠ .wait)) ∧
    (b.status p).getLsbD 7 = false ∧
    (b.status p).getLsbD 8 = b.sticky.cmdDone ∧
    (b.status p).getLsbD 9 = b.sticky.errCmdOvr ∧
    (b.status p).getLsbD 10 = b.sticky.errWrBusy ∧
    (b.status p).getLsbD 11 = b.sticky.errCfg ∧
    (b.status p).getLsbD 12 = b.sticky.errTxOvf ∧
    (b.status p).getLsbD 13 = b.sticky.errEvqUnf ∧
    ∀ i, 14 ≤ i → (b.status p).getLsbD i = false

/-- The EVT and RES windows (R75) show `render` of the head of EVQ (NONE when it is empty) and of RES at every word offset, and
ignore writes. -/
def Obligations.RecordWindowsShowRecords : Prop :=
  ∀ (p : Build) (b : Block) (o : Nat), o < 0x1000 → o % 4 = 0 →
    (∀ r rest, b.evq = r :: rest → readsAs p b (0x1000 + o) (render p.listMax r o)) ∧
    (b.evq = [] → readsAs p b (0x1000 + o) 0) ∧
    readsAs p b (0x2000 + o) (render p.listMax b.res o) ∧
    ∀ (d : Word) (s : State),
      exec (decode (.busWrite (BitVec.ofNat 18 (0x1000 + o)) d)) s = .next s ∧
        exec (decode (.busWrite (BitVec.ofNat 18 (0x2000 + o)) d)) s = .next s

/-- The record layout (R110, R111, R113-R118): every word of every kind of record, at every word offset of the window. -/
def Obligations.RecordsRenderByLayout : Prop :=
  ∀ (n o : Nat), n ≤ 1008 → o < 0x1000 → o % 4 = 0 →
    render n .none o = 0 ∧
    (∀ f : Frame, render n (.frame f) o =
      if o = 0x00 then 1 else if o = 0x04 then f.runId.setWidth 32 else if o = 0x08 then f.seq.setWidth 32
      else if o = 0x0C then f.total.setWidth 32 else if o = 0x10 then f.payloadLen.setWidth 32
      else if o = 0x14 then f.checksum else 0) ∧
    (∀ c : Control, render n (.control c) o =
      if o = 0x00 then (match c.msg with
          | .sync => 0x10002 | .syncAck => 0x20002 | .burst => 0x30002 | .report => 0x40002 | .endMsg => 0x50002
          | .finalMsg => 0x60002)
      else if o = 0x04 then c.runId.setWidth 32
      else if o = 0x08 then c.f0 else if o = 0x0C then c.f1 else if o = 0x10 then c.f2 else if o = 0x14 then c.f3
      else if o = 0x18 then c.f4 else if o = 0x1C then BitVec.ofNat 32 c.list.length
      else if 0x40 ≤ o ∧ (o - 0x40) / 4 < n then ((c.list[(o - 0x40) / 4]?).getD 0).setWidth 32 else 0) ∧
    (∀ e : DecodeError, render n (.frameError e) o =
      if o = 0x00 then (match e with | .badMagic => 0x203 | .badLength => 0x303 | .checksumMismatch => 0x403) else 0) ∧
    ∀ r : Reason, render n (.lineError r) o =
      if o = 0x00 then (match r with
        | .noTerminator => 0x01000504 | .illegalByte => 0x02000504 | .badSyntax => 0x03000504 | .noType => 0x04000504
        | .unknownType => 0x05000504 | .missingField => 0x06000504 | .fieldType => 0x07000504 | .fieldRange => 0x08000504
        | .listOverflow => 0x09000504) else 0

/-- The interrupt line is the function of IRQ_EN and STATUS that R355 gives. -/
def Obligations.IrqIsFunctionOfStatus : Prop :=
  ∀ (p : Build) (b : Block),
    b.irq = ((b.irqEn.getLsbD 0 && (b.status p).getLsbD 1) || (b.irqEn.getLsbD 1 && (b.status p).getLsbD 8) ||
      (b.irqEn.getLsbD 2 && ((b.status p).getLsbD 9 || (b.status p).getLsbD 10 || (b.status p).getLsbD 11 ||
        (b.status p).getLsbD 12 || (b.status p).getLsbD 13)))

/-- What no read shows (R56, R59): the pending word, and the events behind the head of EVQ but for their number. -/
def Obligations.PendAndQueuedEventsAreHidden : Prop :=
  ∀ (p : Build) (b : Block) (w : Word) (evq : List Record) (k : BitVec 16), evq.length = b.evq.length →
    evq.head? = b.evq.head? → ({ b with pend := w, evq := evq } : Block).readWord p k = b.readWord p k

/-! ## Reset and whole-machine rules -/

/-- Power-on reset in every build (R380): every component at its value, every byte of PAY and DEC an unspecified draw,
STATUS reading 0x00000048 and IRQ = 0. -/
def Obligations.PowerOnResetValues : Prop :=
  ∀ p : Build, p.Legal →
    ∃ m : Memory, (State.resetOf p).build = p ∧ (∀ a, m.read a = Config.powerOnByte a) ∧
      (State.resetOf p).blk =
        { sb := [], evq := [], txf := [], mem := m, busy := false, pend := 0, crcState := 0xFFFFFFFF, res := .none
          demuxEn := false, irqEn := 0, mtu := BitVec.ofNat 16 p.mtuMax, txRunId := 0, txSeq := 0, txTotal := 0
          txPlen := 0, decLen := 0, cmdResult := 0, encCrc := 0, sticky := ⟨false, false, false, false, false, false⟩
          cnt := ⟨0, 0, 0, 0, 0, 0⟩ } ∧
      (State.resetOf p).blk.mtu.toNat = p.mtuMax ∧ (State.resetOf p).blk.status p = 0x00000048 ∧
      (State.resetOf p).blk.irq = false

/-- The invariant holds after power-on reset of every legal build. -/
def Obligations.ResetMeetsInvariant : Prop := ∀ p : Build, p.Legal → (State.resetOf p).Inv

/-- Every step keeps the invariant: the bounds of SB (R271), EVQ, TXF and DEC_LEN, a legal MTU, the canonical form of the RAM and
nothing outside PAY and DEC, only events in EVQ, a result word in CMD_RESULT. -/
def Obligations.StepKeepsInvariant : Prop := ∀ s t : State, s.Inv → step s = .next t → t.Inv

/-- Nothing stops the block (R358): every operation answers a next state in every state, and from every state every number of
steps is taken. -/
def Obligations.NothingStopsTheBlock : Prop :=
  (∀ (i : Instr) (s : State), ∃ t, exec i s = .next t) ∧ ∀ (s : State) (n : Nat), ∃ t, core.run n s = .next t

/-- The ENGINE's step (R303): with a command pending whose condition holds it completes that command, exactly as the command's
own operation does, writing CMD_RESULT with VALID, OPC and a result code of R350, CMD_DONE and BUSY in one step; with none
pending, or a FRAME_ENCODE held, it is not enabled. That a step which is not enabled changes nothing, and that a command's own
operation is its completion while it is the pending one, is the model's choice (log entry 4). -/
def Obligations.EngineCompletesPendingCommand : Prop :=
  ∀ s : State,
    (s.blk.busy = true → ¬ s.blk.held s.build →
      ∃ t, exec .engineComplete s = .next t ∧ exec (decode (.command s.blk.pend)) s = .next t ∧
        t.blk.busy = false ∧ t.blk.sticky.cmdDone = true ∧
        ∃ code : Byte, code.toNat ≤ 6 ∧ t.blk.cmdResult = (1#16 ++ s.blk.pend.extractLsb' 0 8 ++ code : BitVec 32)) ∧
    (s.blk.busy = false ∨ s.blk.held s.build → exec .engineComplete s = .next s)

/-- The sticky bits (R31, R352, R303): each is set only by the event named for it, and cleared only by a STATUS write with a 1 in
its place or by soft reset. -/
def Obligations.StickyBitsChangeOnlyByRule : Prop :=
  ∀ (i : Instr) (s t : State), i.wf = true → exec i s = .next t →
    (isSoftReset i = false →
      (s.blk.sticky.cmdDone = true → t.blk.sticky.cmdDone = false → ∃ d, i = .wrStatus d ∧ d.getLsbD 8 = true) ∧
      (s.blk.sticky.errCmdOvr = true → t.blk.sticky.errCmdOvr = false → ∃ d, i = .wrStatus d ∧ d.getLsbD 9 = true) ∧
      (s.blk.sticky.errWrBusy = true → t.blk.sticky.errWrBusy = false → ∃ d, i = .wrStatus d ∧ d.getLsbD 10 = true) ∧
      (s.blk.sticky.errCfg = true → t.blk.sticky.errCfg = false → ∃ d, i = .wrStatus d ∧ d.getLsbD 11 = true) ∧
      (s.blk.sticky.errTxOvf = true → t.blk.sticky.errTxOvf = false → ∃ d, i = .wrStatus d ∧ d.getLsbD 12 = true) ∧
      (s.blk.sticky.errEvqUnf = true → t.blk.sticky.errEvqUnf = false → ∃ d, i = .wrStatus d ∧ d.getLsbD 13 = true)) ∧
    (s.blk.sticky.cmdDone = false → t.blk.sticky.cmdDone = true →
      completes (decodeCommand s.blk.pend) s.blk i ∧ t.blk.busy = false) ∧
    (s.blk.sticky.errCmdOvr = false → t.blk.sticky.errCmdOvr = true → s.blk.busy = true ∧ ∃ d, i = .wrCmd d) ∧
    (s.blk.sticky.errWrBusy = false → t.blk.sticky.errWrBusy = true → s.blk.busy = true ∧ isGuardedWrite i = true) ∧
    (s.blk.sticky.errCfg = false → t.blk.sticky.errCfg = true →
      (∃ d, i = .wrMtu d ∧ (s.blk.demuxEn = true ∨ (lowHalf d).toNat < 14 ∨ s.build.mtuMax < (lowHalf d).toNat)) ∨
        ∃ d, i = .wrDecLen d ∧ s.build.mtuMax < (lowHalf d).toNat) ∧
    (s.blk.sticky.errTxOvf = false → t.blk.sticky.errTxOvf = true →
      (∃ d, i = .wrTxData d) ∧ s.blk.txf.length = s.build.txFifoDepth) ∧
    (s.blk.sticky.errEvqUnf = false → t.blk.sticky.errEvqUnf = true → (∃ d, i = .wrEvqPop d) ∧ s.blk.evq = [])

/-- RES (R321): written only by the completions of FRAME_DECODE and LINE_PARSE and by reset, and by every such completion, on
success and on failure. -/
def Obligations.ResWrittenOnlyByDecodeAndParse : Prop :=
  ∀ (i : Instr) (s t : State), exec i s = .next t →
    (t.blk.res ≠ s.blk.res → isSoftReset i = true ∨ completes .frameDecode s.blk i ∨ completes .lineParse s.blk i) ∧
    (completes .frameDecode s.blk i → (∃ f, t.blk.res = .frame f) ∨ ∃ e, t.blk.res = .frameError e) ∧
    (completes .lineParse s.blk i → (∃ c, t.blk.res = .control c) ∨ ∃ r, t.blk.res = .lineError r)

/-- The stand-alone engine and the codec are independent (R157): CRC_STATE changes only by the three CRC commands and by reset;
every other operation but a bus read does the same whatever CRC_STATE holds, so neither FRAME_ENCODE, FRAME_DECODE nor the
demultiplexer reads it; and the CRC commands change nothing but CRC_STATE and the outputs of every completion. -/
def Obligations.CrcEngineIsIndependent : Prop :=
  (∀ (i : Instr) (s t : State), exec i s = .next t → t.blk.crcState ≠ s.blk.crcState →
    isSoftReset i = true ∨ completes .crcInit s.blk i ∨ (∃ b, completes (.crcByte b) s.blk i) ∨ completes .crcBuf s.blk i) ∧
  (∀ (i : Instr) (s t : State) (x : Word), exec i s = .next t → isSoftReset i = false → (∀ k, i ≠ .rdAny k) →
    ¬ completes .crcInit s.blk i → (∀ b, ¬ completes (.crcByte b) s.blk i) → ¬ completes .crcBuf s.blk i →
    exec i (s.withBlk { s.blk with crcState := x }) = .next (t.withBlk { t.blk with crcState := x })) ∧
  ∀ (i : Instr) (s t : State), exec i s = .next t →
    completes .crcInit s.blk i ∨ (∃ b, completes (.crcByte b) s.blk i) ∨ completes .crcBuf s.blk i →
    t = s.withBlk (completedWith { s.blk with crcState := t.blk.crcState } t.blk.cmdResult)

/-- The counters (R264): only RXPORT at the cap, an MTU write, a DEMUX step, CNT_CLEAR and reset change one. -/
def Obligations.CountersChangeOnlyByRule : Prop :=
  ∀ (i : Instr) (s t : State), exec i s = .next t → t.blk.cnt ≠ s.blk.cnt →
    isSoftReset i = true ∨ completes .cntClear s.blk i ∨
      ((∃ d, i = .rxDeliver d) ∧ s.blk.bufCap ≤ s.blk.sb.length) ∨ (∃ d, i = .wrMtu d) ∨
      (i = .demuxStep ∧ s.blk.demuxEnabled s.build = true)

/-- The head of EVQ (R82, marked derived) is changed only by EVQ_POP, EVQ_FLUSH and soft reset. -/
def Obligations.EventHeadIsStable : Prop :=
  ∀ (i : Instr) (s t : State) (r : Record) (rest : List Record), exec i s = .next t → s.blk.evq = r :: rest →
    t.blk.evq.head? = some r ∨ (∃ d, i = .wrEvqPop d) ∨ completes .evqFlush s.blk i ∨ isSoftReset i = true

/-- A command's inputs do not change while it is pending (R85, marked derived): any operation after which BUSY is still 1 left
the word and every register and buffer it reads as they were. -/
def Obligations.CommandInputsStableWhileBusy : Prop :=
  ∀ (i : Instr) (s t : State), exec i s = .next t → s.blk.busy = true → t.blk.busy = true →
    t.blk.pend = s.blk.pend ∧ t.blk.mtu = s.blk.mtu ∧ t.blk.txRunId = s.blk.txRunId ∧ t.blk.txSeq = s.blk.txSeq ∧
      t.blk.txTotal = s.blk.txTotal ∧ t.blk.txPlen = s.blk.txPlen ∧ t.blk.decLen = s.blk.decLen ∧ t.blk.mem = s.blk.mem

/-- ENGINE and DEMUX are independent agents (R322): a command changes SB only through BUF_FLUSH and EVQ only through EVQ_FLUSH,
and a DEMUX step leaves the command inputs, PEND, BUSY, RES, CRC_STATE and TXF alone. -/
def Obligations.EngineAndDemuxAreIndependent : Prop :=
  (∀ (c : Command) (i : Instr) (s t : State), completes c s.blk i → exec i s = .next t →
    (c ≠ .bufFlush → t.blk.sb = s.blk.sb) ∧ (c ≠ .evqFlush → t.blk.evq = s.blk.evq)) ∧
  ∀ s t : State, exec .demuxStep s = .next t →
    t = s.withBlk { s.blk with sb := t.blk.sb, evq := t.blk.evq, cnt := t.blk.cnt }
end

