-- ==== Sys2Proof/Laws/Memory.lean ====
section
/-! SUPPORT. The laws of the RAM behind the PAY and DEC windows: reading what was written, leaving the rest alone, keeping the
canonical form, and listing no address but the one written. -/

/- One theorem after the other: each concurrent elaboration reserves a thread's stack of memory. -/
set_option Elab.async false

namespace Sys2Proof.Machine

@[simp] theorem Memory.cell_nil (a : Nat) : Memory.cell [] a = none := rfl

theorem Memory.cell_cons (c : Host.Cell) (m : Memory) (a : Nat) :
    Memory.cell (c :: m) a = if c.1 = a then some c.2 else Memory.cell m a := by
  unfold Memory.cell
  by_cases h : c.1 = a
  · simp [List.find?, h]
  · have hb : (c.1 == a) = false := by simpa using h
    simp [List.find?, h, hb]

/-- A cell below every listed address is not listed. -/
theorem Memory.cell_eq_none_of_lt (m : Memory) (a : Nat) (h : ∀ c ∈ m, a < c.1) : m.cell a = none := by
  induction m with
  | nil => rfl
  | cons c m ih =>
    rw [cell_cons, if_neg (by have := h c (by simp); omega)]
    exact ih fun d hd => h d (by simp [hd])

/-- What one byte write does to the cells: the written one holds the byte, every other is as before. -/
theorem Memory.cell_write (m : Memory) (hm : m.wf) (a x : Nat) (b : Byte) :
    (m.write a b).cell x = if x = a then some b else m.cell x := by
  induction m with
  | nil => simp [Memory.write, cell_cons, eq_comm]
  | cons c m ih =>
    have hc : ∀ d ∈ m, c.1 < d.1 := (List.pairwise_cons.mp hm).1
    have ih := ih (List.pairwise_cons.mp hm).2
    unfold Memory.write
    by_cases h₁ : a < c.1
    · rw [if_pos h₁, cell_cons]
      by_cases hx : x = a
      · simp [hx]
      · rw [if_neg (by simpa [eq_comm] using hx), if_neg hx]
    · rw [if_neg h₁]
      by_cases h₂ : a = c.1
      · rw [if_pos h₂, cell_cons, cell_cons]
        by_cases hx : x = a
        · simp [hx]
        · rw [if_neg (by simpa [eq_comm] using hx), if_neg hx, if_neg (by rw [← h₂]; simpa [eq_comm] using hx)]
      · rw [if_neg h₂, cell_cons, cell_cons, ih]
        by_cases hx : x = a
        · subst hx
          rw [if_neg (by omega)]
          simp
        · simp [hx]

/-- Read after write. -/
theorem Memory.read_write (m : Memory) (hm : m.wf) (a x : Nat) (b : Byte) :
    (m.write a b).read x = if x = a then b else m.read x := by
  unfold Memory.read
  rw [cell_write m hm]
  by_cases h : x = a <;> simp [h]

/-- A write lists the written address and what was listed before. -/
theorem Memory.mem_write (m : Memory) (a : Nat) (b : Byte) (c : Host.Cell) (h : c ∈ m.write a b) : c = (a, b) ∨ c ∈ m := by
  induction m with
  | nil => simpa [Memory.write] using h
  | cons d m ih =>
    unfold Memory.write at h
    split at h
    · simpa using h
    · split at h
      · rcases List.mem_cons.mp h with h | h
        · exact .inl h
        · exact .inr (by simp [h])
      · rcases List.mem_cons.mp h with h | h
        · exact .inr (by simp [h])
        · rcases ih h with h | h
          · exact .inl h
          · exact .inr (by simp [h])

/-- A write keeps the canonical form. -/
theorem Memory.write_wf (m : Memory) (hm : m.wf) (a : Nat) (b : Byte) : (m.write a b).wf := by
  induction m with
  | nil => simp [Memory.write]
  | cons c m ih =>
    obtain ⟨hc, hm'⟩ := List.pairwise_cons.mp hm
    unfold Memory.write
    split
    · rename_i h
      refine List.pairwise_cons.mpr ⟨fun d hd => ?_, hm⟩
      rcases List.mem_cons.mp hd with rfl | hd
      · exact h
      · exact Nat.lt_trans h (hc d hd)
    · split
      · rename_i _ h
        exact List.pairwise_cons.mpr ⟨fun d hd => by simpa [h] using hc d hd, hm'⟩
      · refine List.pairwise_cons.mpr ⟨fun d hd => ?_, ih hm'⟩
        rcases mem_write m a b d hd with rfl | hd
        · show c.1 < a
          omega
        · exact hc d hd

/-- One lane of a window write keeps the canonical form. -/
theorem windowWriteLane_wf (m : Memory) (hm : m.wf) (base size i : Nat) (b : Byte) :
    (windowWriteLane m base size i b).wf := by
  unfold windowWriteLane
  split
  · exact Memory.write_wf m hm _ b
  · exact hm

/-- One lane of a window write: its byte if the lane lies inside the buffer, everything else as before. -/
theorem windowWriteLane_read (m : Memory) (hm : m.wf) (base size i x : Nat) (b : Byte) :
    (windowWriteLane m base size i b).read x = if i < size ∧ x = base + i then b else m.read x := by
  unfold windowWriteLane
  by_cases h : i < size <;> simp [h, Memory.read_write m hm]

/-- A window write keeps the canonical form. -/
theorem windowWrite_wf (m : Memory) (hm : m.wf) (base size off : Nat) (d : Word) : (windowWrite m base size off d).wf := by
  simp only [windowWrite, List.foldl_cons, List.foldl_nil]
  exact windowWriteLane_wf _ (windowWriteLane_wf _ (windowWriteLane_wf _ (windowWriteLane_wf _ hm _ _ _ _) _ _ _ _) _ _ _ _) _ _ _ _

/-- A window write lists nothing outside the buffer. -/
theorem windowWriteLane_mem (m : Memory) (base size i : Nat) (b : Byte) (c : Host.Cell)
    (h : c ∈ windowWriteLane m base size i b) : c ∈ m ∨ ∃ j, j < size ∧ c.1 = base + j := by
  unfold windowWriteLane at h
  split at h
  · rename_i hi
    rcases Memory.mem_write m _ b c h with rfl | h
    · exact .inr ⟨i, hi, rfl⟩
    · exact .inl h
  · exact .inl h

end Sys2Proof.Machine
end

