-- ==== Sys2Proof/Laws/State.lean ====
section
/-! SUPPORT. The fields of the state after each named update: one lemma per field per update, true by unfolding. -/

/- One theorem after the other: each concurrent elaboration reserves a thread's stack of memory. -/
set_option Elab.async false

namespace Sys2Proof.Machine

/-! ## The machine with another block -/

@[simp] theorem State.withBlk_build (s : State) (b : Block) : (s.withBlk b).build = s.build := rfl
@[simp] theorem State.withBlk_blk (s : State) (b : Block) : (s.withBlk b).blk = b := rfl
@[simp] theorem State.withBlk_moves (s : State) (b : Block) : (s.withBlk b).moves = s.moves := rfl
@[simp] theorem State.withBlk_rdData (s : State) (b : Block) : (s.withBlk b).rdData = s.rdData := rfl
@[simp] theorem State.withBlk_wire (s : State) (b : Block) : (s.withBlk b).wire = s.wire := rfl

/-! ## `evict` -/

@[simp] theorem Block.evict_sb (b : Block) (n : Nat) : (b.evict n).sb = b.sb.drop n := rfl
@[simp] theorem Block.evict_evq (b : Block) (n : Nat) : (b.evict n).evq = b.evq := rfl
@[simp] theorem Block.evict_txf (b : Block) (n : Nat) : (b.evict n).txf = b.txf := rfl
@[simp] theorem Block.evict_mem (b : Block) (n : Nat) : (b.evict n).mem = b.mem := rfl
@[simp] theorem Block.evict_busy (b : Block) (n : Nat) : (b.evict n).busy = b.busy := rfl
@[simp] theorem Block.evict_pend (b : Block) (n : Nat) : (b.evict n).pend = b.pend := rfl
@[simp] theorem Block.evict_crcState (b : Block) (n : Nat) : (b.evict n).crcState = b.crcState := rfl
@[simp] theorem Block.evict_res (b : Block) (n : Nat) : (b.evict n).res = b.res := rfl
@[simp] theorem Block.evict_demuxEn (b : Block) (n : Nat) : (b.evict n).demuxEn = b.demuxEn := rfl
@[simp] theorem Block.evict_irqEn (b : Block) (n : Nat) : (b.evict n).irqEn = b.irqEn := rfl
@[simp] theorem Block.evict_mtu (b : Block) (n : Nat) : (b.evict n).mtu = b.mtu := rfl
@[simp] theorem Block.evict_txRunId (b : Block) (n : Nat) : (b.evict n).txRunId = b.txRunId := rfl
@[simp] theorem Block.evict_txSeq (b : Block) (n : Nat) : (b.evict n).txSeq = b.txSeq := rfl
@[simp] theorem Block.evict_txTotal (b : Block) (n : Nat) : (b.evict n).txTotal = b.txTotal := rfl
@[simp] theorem Block.evict_txPlen (b : Block) (n : Nat) : (b.evict n).txPlen = b.txPlen := rfl
@[simp] theorem Block.evict_decLen (b : Block) (n : Nat) : (b.evict n).decLen = b.decLen := rfl
@[simp] theorem Block.evict_cmdResult (b : Block) (n : Nat) : (b.evict n).cmdResult = b.cmdResult := rfl
@[simp] theorem Block.evict_encCrc (b : Block) (n : Nat) : (b.evict n).encCrc = b.encCrc := rfl
@[simp] theorem Block.evict_sticky (b : Block) (n : Nat) : (b.evict n).sticky = b.sticky := rfl
@[simp] theorem Block.evict_cnt (b : Block) (n : Nat) : (b.evict n).cnt = b.cnt := rfl

/-! ## `trimTo` -/

@[simp] theorem Block.trimTo_sb (b : Block) (n : Nat) : (b.trimTo n).sb = b.sb.drop (b.sb.length - n) := rfl
@[simp] theorem Block.trimTo_evq (b : Block) (n : Nat) : (b.trimTo n).evq = b.evq := rfl
@[simp] theorem Block.trimTo_txf (b : Block) (n : Nat) : (b.trimTo n).txf = b.txf := rfl
@[simp] theorem Block.trimTo_mem (b : Block) (n : Nat) : (b.trimTo n).mem = b.mem := rfl
@[simp] theorem Block.trimTo_busy (b : Block) (n : Nat) : (b.trimTo n).busy = b.busy := rfl
@[simp] theorem Block.trimTo_pend (b : Block) (n : Nat) : (b.trimTo n).pend = b.pend := rfl
@[simp] theorem Block.trimTo_crcState (b : Block) (n : Nat) : (b.trimTo n).crcState = b.crcState := rfl
@[simp] theorem Block.trimTo_res (b : Block) (n : Nat) : (b.trimTo n).res = b.res := rfl
@[simp] theorem Block.trimTo_demuxEn (b : Block) (n : Nat) : (b.trimTo n).demuxEn = b.demuxEn := rfl
@[simp] theorem Block.trimTo_irqEn (b : Block) (n : Nat) : (b.trimTo n).irqEn = b.irqEn := rfl
@[simp] theorem Block.trimTo_mtu (b : Block) (n : Nat) : (b.trimTo n).mtu = b.mtu := rfl
@[simp] theorem Block.trimTo_txRunId (b : Block) (n : Nat) : (b.trimTo n).txRunId = b.txRunId := rfl
@[simp] theorem Block.trimTo_txSeq (b : Block) (n : Nat) : (b.trimTo n).txSeq = b.txSeq := rfl
@[simp] theorem Block.trimTo_txTotal (b : Block) (n : Nat) : (b.trimTo n).txTotal = b.txTotal := rfl
@[simp] theorem Block.trimTo_txPlen (b : Block) (n : Nat) : (b.trimTo n).txPlen = b.txPlen := rfl
@[simp] theorem Block.trimTo_decLen (b : Block) (n : Nat) : (b.trimTo n).decLen = b.decLen := rfl
@[simp] theorem Block.trimTo_cmdResult (b : Block) (n : Nat) : (b.trimTo n).cmdResult = b.cmdResult := rfl
@[simp] theorem Block.trimTo_encCrc (b : Block) (n : Nat) : (b.trimTo n).encCrc = b.encCrc := rfl
@[simp] theorem Block.trimTo_sticky (b : Block) (n : Nat) : (b.trimTo n).sticky = b.sticky := rfl
@[simp] theorem Block.trimTo_cnt (b : Block) (n : Nat) : (b.trimTo n).cnt = b.cnt.addOverflow (b.sb.length - n) := rfl

/-! ## `emit` -/

@[simp] theorem Block.emit_sb (b : Block) (r : Record) : (b.emit r).sb = b.sb := rfl
@[simp] theorem Block.emit_evq (b : Block) (r : Record) : (b.emit r).evq = b.evq ++ [r] := rfl
@[simp] theorem Block.emit_txf (b : Block) (r : Record) : (b.emit r).txf = b.txf := rfl
@[simp] theorem Block.emit_mem (b : Block) (r : Record) : (b.emit r).mem = b.mem := rfl
@[simp] theorem Block.emit_busy (b : Block) (r : Record) : (b.emit r).busy = b.busy := rfl
@[simp] theorem Block.emit_pend (b : Block) (r : Record) : (b.emit r).pend = b.pend := rfl
@[simp] theorem Block.emit_crcState (b : Block) (r : Record) : (b.emit r).crcState = b.crcState := rfl
@[simp] theorem Block.emit_res (b : Block) (r : Record) : (b.emit r).res = b.res := rfl
@[simp] theorem Block.emit_demuxEn (b : Block) (r : Record) : (b.emit r).demuxEn = b.demuxEn := rfl
@[simp] theorem Block.emit_irqEn (b : Block) (r : Record) : (b.emit r).irqEn = b.irqEn := rfl
@[simp] theorem Block.emit_mtu (b : Block) (r : Record) : (b.emit r).mtu = b.mtu := rfl
@[simp] theorem Block.emit_txRunId (b : Block) (r : Record) : (b.emit r).txRunId = b.txRunId := rfl
@[simp] theorem Block.emit_txSeq (b : Block) (r : Record) : (b.emit r).txSeq = b.txSeq := rfl
@[simp] theorem Block.emit_txTotal (b : Block) (r : Record) : (b.emit r).txTotal = b.txTotal := rfl
@[simp] theorem Block.emit_txPlen (b : Block) (r : Record) : (b.emit r).txPlen = b.txPlen := rfl
@[simp] theorem Block.emit_decLen (b : Block) (r : Record) : (b.emit r).decLen = b.decLen := rfl
@[simp] theorem Block.emit_cmdResult (b : Block) (r : Record) : (b.emit r).cmdResult = b.cmdResult := rfl
@[simp] theorem Block.emit_encCrc (b : Block) (r : Record) : (b.emit r).encCrc = b.encCrc := rfl
@[simp] theorem Block.emit_sticky (b : Block) (r : Record) : (b.emit r).sticky = b.sticky := rfl
@[simp] theorem Block.emit_cnt (b : Block) (r : Record) : (b.emit r).cnt = b.cnt := rfl

/-! ## `setErrCfg` -/

@[simp] theorem Block.setErrCfg_sb (b : Block) : b.setErrCfg.sb = b.sb := rfl
@[simp] theorem Block.setErrCfg_evq (b : Block) : b.setErrCfg.evq = b.evq := rfl
@[simp] theorem Block.setErrCfg_txf (b : Block) : b.setErrCfg.txf = b.txf := rfl
@[simp] theorem Block.setErrCfg_mem (b : Block) : b.setErrCfg.mem = b.mem := rfl
@[simp] theorem Block.setErrCfg_busy (b : Block) : b.setErrCfg.busy = b.busy := rfl
@[simp] theorem Block.setErrCfg_pend (b : Block) : b.setErrCfg.pend = b.pend := rfl
@[simp] theorem Block.setErrCfg_crcState (b : Block) : b.setErrCfg.crcState = b.crcState := rfl
@[simp] theorem Block.setErrCfg_res (b : Block) : b.setErrCfg.res = b.res := rfl
@[simp] theorem Block.setErrCfg_demuxEn (b : Block) : b.setErrCfg.demuxEn = b.demuxEn := rfl
@[simp] theorem Block.setErrCfg_irqEn (b : Block) : b.setErrCfg.irqEn = b.irqEn := rfl
@[simp] theorem Block.setErrCfg_mtu (b : Block) : b.setErrCfg.mtu = b.mtu := rfl
@[simp] theorem Block.setErrCfg_txRunId (b : Block) : b.setErrCfg.txRunId = b.txRunId := rfl
@[simp] theorem Block.setErrCfg_txSeq (b : Block) : b.setErrCfg.txSeq = b.txSeq := rfl
@[simp] theorem Block.setErrCfg_txTotal (b : Block) : b.setErrCfg.txTotal = b.txTotal := rfl
@[simp] theorem Block.setErrCfg_txPlen (b : Block) : b.setErrCfg.txPlen = b.txPlen := rfl
@[simp] theorem Block.setErrCfg_decLen (b : Block) : b.setErrCfg.decLen = b.decLen := rfl
@[simp] theorem Block.setErrCfg_cmdResult (b : Block) : b.setErrCfg.cmdResult = b.cmdResult := rfl
@[simp] theorem Block.setErrCfg_encCrc (b : Block) : b.setErrCfg.encCrc = b.encCrc := rfl
@[simp] theorem Block.setErrCfg_sticky (b : Block) : b.setErrCfg.sticky = { b.sticky with errCfg := true } := rfl
@[simp] theorem Block.setErrCfg_cnt (b : Block) : b.setErrCfg.cnt = b.cnt := rfl

/-! ## `complete` -/

@[simp] theorem Block.complete_sb (b : Block) (w : Word) (c : ResultCode) : (b.complete w c).sb = b.sb := rfl
@[simp] theorem Block.complete_evq (b : Block) (w : Word) (c : ResultCode) : (b.complete w c).evq = b.evq := rfl
@[simp] theorem Block.complete_txf (b : Block) (w : Word) (c : ResultCode) : (b.complete w c).txf = b.txf := rfl
@[simp] theorem Block.complete_mem (b : Block) (w : Word) (c : ResultCode) : (b.complete w c).mem = b.mem := rfl
@[simp] theorem Block.complete_busy (b : Block) (w : Word) (c : ResultCode) : (b.complete w c).busy = false := rfl
@[simp] theorem Block.complete_pend (b : Block) (w : Word) (c : ResultCode) : (b.complete w c).pend = b.pend := rfl
@[simp] theorem Block.complete_crcState (b : Block) (w : Word) (c : ResultCode) : (b.complete w c).crcState = b.crcState := rfl
@[simp] theorem Block.complete_res (b : Block) (w : Word) (c : ResultCode) : (b.complete w c).res = b.res := rfl
@[simp] theorem Block.complete_demuxEn (b : Block) (w : Word) (c : ResultCode) : (b.complete w c).demuxEn = b.demuxEn := rfl
@[simp] theorem Block.complete_irqEn (b : Block) (w : Word) (c : ResultCode) : (b.complete w c).irqEn = b.irqEn := rfl
@[simp] theorem Block.complete_mtu (b : Block) (w : Word) (c : ResultCode) : (b.complete w c).mtu = b.mtu := rfl
@[simp] theorem Block.complete_txRunId (b : Block) (w : Word) (c : ResultCode) : (b.complete w c).txRunId = b.txRunId := rfl
@[simp] theorem Block.complete_txSeq (b : Block) (w : Word) (c : ResultCode) : (b.complete w c).txSeq = b.txSeq := rfl
@[simp] theorem Block.complete_txTotal (b : Block) (w : Word) (c : ResultCode) : (b.complete w c).txTotal = b.txTotal := rfl
@[simp] theorem Block.complete_txPlen (b : Block) (w : Word) (c : ResultCode) : (b.complete w c).txPlen = b.txPlen := rfl
@[simp] theorem Block.complete_decLen (b : Block) (w : Word) (c : ResultCode) : (b.complete w c).decLen = b.decLen := rfl
@[simp] theorem Block.complete_cmdResult (b : Block) (w : Word) (c : ResultCode) : (b.complete w c).cmdResult = resultWord w c := rfl
@[simp] theorem Block.complete_encCrc (b : Block) (w : Word) (c : ResultCode) : (b.complete w c).encCrc = b.encCrc := rfl
@[simp] theorem Block.complete_sticky (b : Block) (w : Word) (c : ResultCode) : (b.complete w c).sticky = { b.sticky with cmdDone := true } := rfl
@[simp] theorem Block.complete_cnt (b : Block) (w : Word) (c : ResultCode) : (b.complete w c).cnt = b.cnt := rfl

/-! ## `resync` -/

@[simp] theorem Block.resync_sb (b : Block) : b.resync.sb = b.sb.drop 1 := rfl
@[simp] theorem Block.resync_evq (b : Block) : b.resync.evq = b.evq := rfl
@[simp] theorem Block.resync_txf (b : Block) : b.resync.txf = b.txf := rfl
@[simp] theorem Block.resync_mem (b : Block) : b.resync.mem = b.mem := rfl
@[simp] theorem Block.resync_busy (b : Block) : b.resync.busy = b.busy := rfl
@[simp] theorem Block.resync_pend (b : Block) : b.resync.pend = b.pend := rfl
@[simp] theorem Block.resync_crcState (b : Block) : b.resync.crcState = b.crcState := rfl
@[simp] theorem Block.resync_res (b : Block) : b.resync.res = b.res := rfl
@[simp] theorem Block.resync_demuxEn (b : Block) : b.resync.demuxEn = b.demuxEn := rfl
@[simp] theorem Block.resync_irqEn (b : Block) : b.resync.irqEn = b.irqEn := rfl
@[simp] theorem Block.resync_mtu (b : Block) : b.resync.mtu = b.mtu := rfl
@[simp] theorem Block.resync_txRunId (b : Block) : b.resync.txRunId = b.txRunId := rfl
@[simp] theorem Block.resync_txSeq (b : Block) : b.resync.txSeq = b.txSeq := rfl
@[simp] theorem Block.resync_txTotal (b : Block) : b.resync.txTotal = b.txTotal := rfl
@[simp] theorem Block.resync_txPlen (b : Block) : b.resync.txPlen = b.txPlen := rfl
@[simp] theorem Block.resync_decLen (b : Block) : b.resync.decLen = b.decLen := rfl
@[simp] theorem Block.resync_cmdResult (b : Block) : b.resync.cmdResult = b.cmdResult := rfl
@[simp] theorem Block.resync_encCrc (b : Block) : b.resync.encCrc = b.encCrc := rfl
@[simp] theorem Block.resync_sticky (b : Block) : b.resync.sticky = b.sticky := rfl
@[simp] theorem Block.resync_cnt (b : Block) : b.resync.cnt = b.cnt.addResync := rfl

/-! ## `rxDeliver` -/

@[simp] theorem Block.rxDeliver_sb (d : Byte) (p : Build) (b : Block) : (b.rxDeliver d p).sb = b.sb.drop (b.sb.length - (b.bufCap - 1)) ++ [d] := rfl
@[simp] theorem Block.rxDeliver_evq (d : Byte) (p : Build) (b : Block) : (b.rxDeliver d p).evq = b.evq := rfl
@[simp] theorem Block.rxDeliver_txf (d : Byte) (p : Build) (b : Block) : (b.rxDeliver d p).txf = b.txf := rfl
@[simp] theorem Block.rxDeliver_mem (d : Byte) (p : Build) (b : Block) : (b.rxDeliver d p).mem = b.mem := rfl
@[simp] theorem Block.rxDeliver_busy (d : Byte) (p : Build) (b : Block) : (b.rxDeliver d p).busy = b.busy := rfl
@[simp] theorem Block.rxDeliver_pend (d : Byte) (p : Build) (b : Block) : (b.rxDeliver d p).pend = b.pend := rfl
@[simp] theorem Block.rxDeliver_crcState (d : Byte) (p : Build) (b : Block) : (b.rxDeliver d p).crcState = b.crcState := rfl
@[simp] theorem Block.rxDeliver_res (d : Byte) (p : Build) (b : Block) : (b.rxDeliver d p).res = b.res := rfl
@[simp] theorem Block.rxDeliver_demuxEn (d : Byte) (p : Build) (b : Block) : (b.rxDeliver d p).demuxEn = b.demuxEn := rfl
@[simp] theorem Block.rxDeliver_irqEn (d : Byte) (p : Build) (b : Block) : (b.rxDeliver d p).irqEn = b.irqEn := rfl
@[simp] theorem Block.rxDeliver_mtu (d : Byte) (p : Build) (b : Block) : (b.rxDeliver d p).mtu = b.mtu := rfl
@[simp] theorem Block.rxDeliver_txRunId (d : Byte) (p : Build) (b : Block) : (b.rxDeliver d p).txRunId = b.txRunId := rfl
@[simp] theorem Block.rxDeliver_txSeq (d : Byte) (p : Build) (b : Block) : (b.rxDeliver d p).txSeq = b.txSeq := rfl
@[simp] theorem Block.rxDeliver_txTotal (d : Byte) (p : Build) (b : Block) : (b.rxDeliver d p).txTotal = b.txTotal := rfl
@[simp] theorem Block.rxDeliver_txPlen (d : Byte) (p : Build) (b : Block) : (b.rxDeliver d p).txPlen = b.txPlen := rfl
@[simp] theorem Block.rxDeliver_decLen (d : Byte) (p : Build) (b : Block) : (b.rxDeliver d p).decLen = b.decLen := rfl
@[simp] theorem Block.rxDeliver_cmdResult (d : Byte) (p : Build) (b : Block) : (b.rxDeliver d p).cmdResult = b.cmdResult := rfl
@[simp] theorem Block.rxDeliver_encCrc (d : Byte) (p : Build) (b : Block) : (b.rxDeliver d p).encCrc = b.encCrc := rfl
@[simp] theorem Block.rxDeliver_sticky (d : Byte) (p : Build) (b : Block) : (b.rxDeliver d p).sticky = b.sticky := rfl
@[simp] theorem Block.rxDeliver_cnt (d : Byte) (p : Build) (b : Block) : (b.rxDeliver d p).cnt = b.cnt.addOverflow (b.sb.length - (b.bufCap - 1)) := rfl

/-! ## Soft reset -/

@[simp] theorem Block.softReset_sb (p : Build) (b : Block) : (b.softReset p).sb = [] := rfl
@[simp] theorem Block.softReset_evq (p : Build) (b : Block) : (b.softReset p).evq = [] := rfl
@[simp] theorem Block.softReset_txf (p : Build) (b : Block) : (b.softReset p).txf = [] := rfl
@[simp] theorem Block.softReset_mem (p : Build) (b : Block) : (b.softReset p).mem = b.mem := rfl
@[simp] theorem Block.softReset_busy (p : Build) (b : Block) : (b.softReset p).busy = false := rfl
@[simp] theorem Block.softReset_pend (p : Build) (b : Block) : (b.softReset p).pend = 0 := rfl
@[simp] theorem Block.softReset_crcState (p : Build) (b : Block) : (b.softReset p).crcState = 0xFFFFFFFF := rfl
@[simp] theorem Block.softReset_res (p : Build) (b : Block) : (b.softReset p).res = .none := rfl
@[simp] theorem Block.softReset_demuxEn (p : Build) (b : Block) : (b.softReset p).demuxEn = false := rfl
@[simp] theorem Block.softReset_irqEn (p : Build) (b : Block) : (b.softReset p).irqEn = 0 := rfl
@[simp] theorem Block.softReset_mtu (p : Build) (b : Block) : (b.softReset p).mtu = BitVec.ofNat 16 p.mtuMax := rfl
@[simp] theorem Block.softReset_txRunId (p : Build) (b : Block) : (b.softReset p).txRunId = 0 := rfl
@[simp] theorem Block.softReset_txSeq (p : Build) (b : Block) : (b.softReset p).txSeq = 0 := rfl
@[simp] theorem Block.softReset_txTotal (p : Build) (b : Block) : (b.softReset p).txTotal = 0 := rfl
@[simp] theorem Block.softReset_txPlen (p : Build) (b : Block) : (b.softReset p).txPlen = 0 := rfl
@[simp] theorem Block.softReset_decLen (p : Build) (b : Block) : (b.softReset p).decLen = 0 := rfl
@[simp] theorem Block.softReset_cmdResult (p : Build) (b : Block) : (b.softReset p).cmdResult = 0 := rfl
@[simp] theorem Block.softReset_encCrc (p : Build) (b : Block) : (b.softReset p).encCrc = 0 := rfl
@[simp] theorem Block.softReset_sticky (p : Build) (b : Block) : (b.softReset p).sticky = ⟨false, false, false, false, false, false⟩ := rfl
@[simp] theorem Block.softReset_cnt (p : Build) (b : Block) : (b.softReset p).cnt = ⟨0, 0, 0, 0, 0, 0⟩ := rfl

/-! ## The list of operations -/

@[simp] theorem State.fetch_nil (s : State) (h : s.moves = []) : s.fetch = none := by simp [State.fetch, h]

@[simp] theorem State.fetch_cons (s : State) (c : Code) (rest : List Code) (h : s.moves = c :: rest) :
    s.fetch = some (c, { s with moves := rest }) := by simp [State.fetch, h]

@[simp] theorem State.place_build (s : State) (c : Code) : (s.place c).build = s.build := by cases c <;> rfl
@[simp] theorem State.place_moves (s : State) (c : Code) : (s.place c).moves = c :: s.moves := by cases c <;> rfl
@[simp] theorem State.place_rdData (s : State) (c : Code) : (s.place c).rdData = s.rdData := by cases c <;> rfl
@[simp] theorem State.place_wire (s : State) (c : Code) : (s.place c).wire = s.wire := by cases c <;> rfl

end Sys2Proof.Machine
end

