-- ==== Sys2Proof/Laws/Ops.lean ====
section
/-! SUPPORT. What each shared operation can do, said once: the completion envelope, the guard, the lifting to the machine, the
result word, and the sequence operations. -/

/- One theorem after the other: each concurrent elaboration reserves a thread's stack of memory. -/
set_option Elab.async false

namespace Sys2Proof.Machine

/-- A lifted change of the block answers the machine with that block. -/
theorem onBlock_eq (f : Build → Block → Block) (s : State) : onBlock f s = .next (s.withBlk (f s.build s.blk)) := rfl

/-- A lifted change of the block gives one next state. -/
theorem onBlock_next {f : Build → Block → Block} {s t : State} (h : onBlock f s = .next t) :
    t = s.withBlk (f s.build s.blk) := by
  rw [onBlock_eq] at h
  exact (Host.Outcome.next.inj h).symm

theorem Block.pending_iff (b : Block) (w : Word) : b.pending w = true ↔ b.busy = true ∧ b.pend = w := by
  simp [Block.pending]

/-- The completion envelope, every case: not pending or held, the block is unchanged; else what `perform` gives, completed. -/
theorem completeWith_cases (w : Word) (perform : Build → Block → Option (Block × ResultCode)) (p : Build) (b : Block) :
    (completeWith w perform p b = b ∧ (b.pending w = false ∨ perform p b = none)) ∨
      ∃ b' c, b.pending w = true ∧ perform p b = some (b', c) ∧ completeWith w perform p b = b'.complete w c := by
  unfold completeWith
  by_cases h : b.pending w = true
  · cases hp : perform p b with
    | none => exact .inl ⟨by simp [h], .inr rfl⟩
    | some x => exact .inr ⟨x.1, x.2, h, rfl, by simp [h]⟩
  · exact .inl ⟨by simp [h], .inl (by simpa using h)⟩

/-- A pending command whose condition holds completes. -/
theorem completeWith_some {w : Word} {perform : Build → Block → Option (Block × ResultCode)} {p : Build} {b b' : Block}
    {c : ResultCode} (h : b.pending w = true) (hp : perform p b = some (b', c)) :
    completeWith w perform p b = b'.complete w c := by
  simp [completeWith, h, hp]

/-- A guarded write while BUSY. -/
theorem guardedWrite_busy (f : Block → Block) (b : Block) (h : b.busy = true) :
    guardedWrite f b = { b with sticky := { b.sticky with errWrBusy := true } } := by
  simp [guardedWrite, h]

/-- A guarded write while no command is pending. -/
theorem guardedWrite_free (f : Block → Block) (b : Block) (h : b.busy = false) : guardedWrite f b = f b := by
  simp [guardedWrite, h]

/-- VALID is set in every result word. -/
theorem resultWord_valid (w : Word) (c : ResultCode) : (resultWord w c).getLsbD 16 = true := by
  unfold resultWord
  rw [BitVec.getLsbD_append, BitVec.getLsbD_append]
  simp

/-! ## Byte sequences -/

@[simp] theorem le16_length (v : Half) : (le16 v).length = 2 := rfl

@[simp] theorem le32_length (v : Word) : (le32 v).length = 4 := rfl

theorem rdLE16_le16 (v : Half) : (byteAt (le16 v) 1 ++ byteAt (le16 v) 0 : BitVec 16) = v := by
  ext i hi
  simp only [le16, byteAt, List.getD_cons_zero, List.getD_cons_succ, BitVec.getElem_append, BitVec.getElem_extractLsb']
  by_cases h : i < 8
  · simp [h, BitVec.getLsbD_eq_getElem hi]
  · have h8 : 8 + (i - 8) = i := by omega
    simp [h, h8, BitVec.getLsbD_eq_getElem hi]

/-- A byte of a concatenation. -/
theorem byteAt_append (s t : Bytes) (i : Nat) :
    byteAt (s ++ t) i = if i < s.length then byteAt s i else byteAt t (i - s.length) := by
  unfold byteAt
  by_cases h : i < s.length
  · rw [if_pos h, List.getD_append _ _ _ _ h]
  · rw [if_neg h, List.getD_append_right _ _ _ _ (by omega)]

/-- `crc_run` over a concatenation, piece by piece. -/
theorem crcRun_append (c : Word) (s t : Bytes) : crcRun c (s ++ t) = crcRun (crcRun c s) t := List.foldl_append

@[simp] theorem crcRun_nil (c : Word) : crcRun c [] = c := rfl

@[simp] theorem crcRun_cons (c : Word) (b : Byte) (s : Bytes) : crcRun c (b :: s) = crcRun (crcUpdate c b) s := rfl

/-- The length of a slice of RAM. -/
@[simp] theorem Memory.readBytes_length (m : Memory) (a n : Nat) : (m.readBytes a n).length = n := by
  simp [Memory.readBytes]

/-! ## The DEMUX step -/

/-- The DEMUX step when it is enabled. -/
theorem Block.demux_enabled {p : Build} {b : Block} (h : b.demuxEnabled p = true) : b.demux p = b.act p b.action := by
  simp [Block.demux, h]

/-- The DEMUX step when it is not. -/
theorem Block.demux_disabled {p : Build} {b : Block} (h : b.demuxEnabled p = false) : b.demux p = b := by
  simp [Block.demux, h]

/-- When the DEMUX step is enabled. -/
theorem Block.demuxEnabled_iff (p : Build) (b : Block) :
    b.demuxEnabled p = true ↔ b.demuxEn = true ∧ b.evq.length < p.evqDepth ∧ b.action ≠ .wait := by
  simp [Block.demuxEnabled, and_assoc]

/-- How an action changes SB: it evicts from the front, a frame or line its own length, anything else one byte. -/
theorem Block.act_sb (p : Build) (b : Block) (a : Action) :
    (b.act p a).sb = b.sb.drop (match a with
      | .wait => 0
      | .noise => 1 | .dead => 1 | .full => 1 | .frameBad _ => 1
      | .frameOk _ => b.mtu.toNat
      | .line k => k + 1) := by
  cases a <;> simp [Block.act]
  split <;> simp

/-- What a DEMUX action leaves alone: everything but SB, EVQ and the counters. -/
theorem Block.act_frame (p : Build) (b : Block) (a : Action) :
    b.act p a = { b with sb := (b.act p a).sb, evq := (b.act p a).evq, cnt := (b.act p a).cnt } := by
  cases a <;> simp only [Block.act] <;> first | rfl | (split <;> rfl)

end Sys2Proof.Machine
end

