-- ==== Sys2Proof/Tests/Slice0.lean ====
section
/-! SUPPORT. The model's own tests: well-formedness, decoding of words written out from the spec's encodings, one step of each
instruction against the vectors of 95_test_vectors.md, and a witness for the hypotheses of every statement. -/

/- One theorem after the other: each concurrent elaboration reserves a thread's stack of memory. -/
set_option Elab.async false

namespace Sys2Proof.Tests

open Sys2Proof Sys2Proof.Machine

/-! ## Well-formedness: each check refuses an ill-formed term -/

theorem test_wf_illegal_refuses_c0_command : (Instr.illegal 0x00000022).wf = false := by decide

theorem test_wf_illegal_refuses_c1_command : (Instr.illegal 0x0000FF11).wf = false := by decide

theorem test_wf_illegal_takes_reserved_word : (Instr.illegal 0x00000013).wf = true ∧ (Instr.illegal 0x00013111).wf = true := by
  decide

theorem test_wf_other_refuses_write_rule_register : (Instr.wrOther 0x0008 0).wf = false := by decide

theorem test_wf_other_refuses_window_word : (Instr.wrOther 0x4000 0).wf = false ∧ (Instr.wrOther 0xBFFF 0).wf = false := by
  decide

theorem test_wf_other_takes_read_only_and_reserved : (Instr.wrOther 0x0000 0).wf = true ∧ (Instr.wrOther 0xC000 0).wf = true := by
  decide

/-! ## Decoding: words written out from 30_encoding.md R100-R103, 10_state.md R23, 20_memory.md R71, R72 -/

/-- Formats C0 and C1 field by field: bits [31:16], [15:8], OPC. -/
theorem test_decode_commands :
    ([(0x00#8, 0x00#8), (0x00, 0x01), (0x00, 0x02), (0x00, 0x03), (0x00, 0x04), (0x00, 0x10), (0x31, 0x11), (0x00, 0x12),
      (0x00, 0x20), (0x00, 0x21), (0x00, 0x22)].map fun x => decode (.command (0#16 ++ x.1 ++ x.2 : BitVec 32))) =
    [.nop, .cntClear, .bufFlush, .evqFlush, .txFlush, .crcInit, .crcByte 0x31, .crcBuf, .frameEncode, .frameDecode,
      .lineParse] := by decide

/-- A non-zero "must be 0" field and an unlisted OPC are illegal (R102). -/
theorem test_decode_illegal :
    ([0x00000100#32, 0x00000005, 0x00013111, 0x80000000, 0x000000FF].map fun w => decode (.command w)) =
    [.illegal 0x00000100, .illegal 0x00000005, .illegal 0x00013111, .illegal 0x80000000, .illegal 0x000000FF] := by decide

/-- The registers with a write rule, at their offsets, one of them by a misaligned address. -/
theorem test_decode_register_writes :
    ([0x0002C#18, 0x00020, 0x00024, 0x00028, 0x00043, 0x00044, 0x00048, 0x0004C, 0x00050, 0x00054, 0x00080, 0x00084].map
      fun a => decode (.busWrite a 5)) =
    [.wrCmd 5, .wrCtrl 5, .wrStatus 5, .wrIrqEn 5, .wrMtu 5, .wrTxRunId 5, .wrTxSeq 5, .wrTxTotal 5, .wrTxPlen 5, .wrDecLen 5,
      .wrTxData 5, .wrEvqPop 5] := by decide

/-- The windows from their first to their last word, and the words about them. -/
theorem test_decode_windows_and_other :
    ([0x10000#18, 0x1FFFC, 0x20000, 0x2FFFF, 0x0FFFC, 0x30000, 0x01000, 0x02FFC, 0x00014].map fun a => decode (.busWrite a 5)) =
    [.wrPay 0 5, .wrPay 0x3FFF 5, .wrDec 0 5, .wrDec 0x3FFF 5, .wrOther 0x3FFF 5, .wrOther 0xC000 5, .wrOther 0x0400 5,
      .wrOther 0x0BFF 5, .wrOther 0x0005 5] := by decide

theorem test_decode_read_and_agents :
    [decode (.busRead 0x3FFFD), decode (.rxByte 0x5A), decode .txStep, decode .engineStep, decode .demuxStep] =
    [.rdAny 0xFFFF, .rxDeliver 0x5A, .txTake, .engineComplete, .demuxStep] := by decide

/-- Opcode-table words: a command row, the CRC_BYTE row with an operand, the ILLEGAL row, a bus row, the CTRL row. -/
theorem test_decode_table_words :
    [decodeTableWord 32 0x21, decodeTableWord 32 0x4111, decodeTableWord 8 0xFF, decodeTableWord 24 0x0002C,
      decodeTableWord 24 0x20000, decodeTableWord 32 0x80000021] =
    [some .frameDecode, some (.crcByte 0x41), some (.illegal 0xFF), some (.wrCmd 0), some (.wrDec 0 0),
      some (.wrCtrl 0x80000001)] := by decide

/-- The key and kind names of 43_control_line.md R206, R207, against the characters the spec prints. -/
theorem test_names :
    [keyType, keyRunId, keyMtu, keyCount, keyWindow, keySeqs, keyMissing, keyReceivedTotal, keyCrcFail, keyTimeouts, keyReceived,
      keyExpected, keyLossPct] =
    ["type", "run_id", "mtu", "count", "window", "seqs", "missing", "received_total", "crc_fail", "timeouts", "received",
      "expected", "loss_pct"].map asciiUnits ∧
    [Msg.sync, .syncAck, .burst, .report, .endMsg, .finalMsg].map Msg.name =
      ["SYNC", "SYNC_ACK", "BURST", "REPORT", "END", "FINAL"].map asciiUnits := by
  decide +kernel

/-- 43_control_line.md R217's example, and LP-8 of 95_test_vectors.md with six fraction digits, written as the spec prints them. -/
theorem test_canonical_lines :
    Script.canonicalLine ⟨.sync, 4660, 256, 10, 5, 0, 0, []⟩ [] =
      0x7B :: ("\"type\":\"SYNC\",\"run_id\":4660,\"mtu\":256,\"count\":10,\"window\":5".toList.map
        (fun c => BitVec.ofNat 8 c.toNat) ++ [0x7D, 0x0A]) ∧
    Script.canonicalLine ⟨.finalMsg, 1, 2, 3, 3333, 0, 0, []⟩ [3, 3, 3, 3, 3, 3] =
      0x7B :: (("\"type\":\"FINAL\",\"run_id\":1,\"received\":2,\"expected\":3,\"loss_pct\":33.333333," ++
        "\"crc_fail\":0,\"timeouts\":0").toList.map (fun c => BitVec.ofNat 8 c.toNat) ++ [0x7D, 0x0A]) ∧
    parseLine 64 (Script.canonicalLine ⟨.finalMsg, 1, 2, 3, 3333, 0, 0, []⟩ [3, 3, 3, 3, 3, 3]) =
      .ok ⟨.finalMsg, 1, 2, 3, 3333, 0, 0, []⟩ := by
  decide +kernel

/-! ## Small states -/

/-- The block after power-on in the vectors' build. -/
def blk0 : Block := Block.reset Build.vectors

/-- The machine around a block, in the vectors' build. -/
def st (b : Block) : State := ⟨Build.vectors, b, [], 0, []⟩

/-- The block with a pending command. -/
def pendOn (w : Word) (b : Block) : Block := { b with busy := true, pend := w }

/-- The memory that holds bytes from an address up. -/
def memAt (a : Nat) (s : Bytes) : Memory := s.zipIdx.map fun x => (a + x.2, x.1)

/-- The block with MTU 20 and `s` in DEC. -/
def withDec (s : Bytes) : Block := { blk0 with mtu := 20, decLen := BitVec.ofNat 16 s.length, mem := memAt 0x20000 s }

/-- F20 of 95_test_vectors.md. -/
def f20 : Bytes :=
  [0x5A, 0xA5, 0xEF, 0xBE, 0x02, 0x01, 0x04, 0x03, 0x06, 0x00, 0x01, 0x02, 0x03, 0x04, 0x05, 0x06, 0xE6, 0x5B, 0xD3, 0xCA]

/-- The FRAME record of F20. -/
def f20Frame : Frame := ⟨0xBEEF, 0x0102, 0x0304, 6, 0xCAD35BE6⟩

/-- END30 of 95_test_vectors.md. -/
def end30 : Bytes :=
  [0x7B, 0x22, 0x74, 0x79, 0x70, 0x65, 0x22, 0x3A, 0x22, 0x45, 0x4E, 0x44, 0x22, 0x2C, 0x22, 0x72, 0x75, 0x6E, 0x5F, 0x69,
    0x64, 0x22, 0x3A, 0x34, 0x38, 0x38, 0x37, 0x39, 0x7D, 0x0A]

/-- A property of the next state. -/
def nextSat (o : Outcome) (f : State → Bool) : Bool :=
  match o with
  | .next t => f t
  | .fault _ => false
  | .refused _ => false

/-- The demultiplexing block with MTU 20 and `s` in SB. -/
def demuxOn (s : Bytes) : Block := { blk0 with mtu := 20, demuxEn := true, sb := s }

/-! ## One step against the vectors (95_test_vectors.md; the id stands at each) -/

/-- HC-1. -/
theorem test_reset_reads :
    ([0x000, 0x004, 0x008, 0x00C, 0x010, 0x024, 0x074, 0x040, 0x064].map fun o =>
      Block.readWord Build.vectors blk0 (BitVec.ofNat 16 (o / 4))) =
    [0x52464231, 0x00010000, 0x00400100, 0x00000004, 0x00000200, 0x00000048, 0x00009600, 0x00000100, 0xFFFFFFFF] := by
  decide +kernel

/-- HC-2. -/
theorem test_nop : nextSat (exec .nop (st (pendOn 0 blk0))) (fun t =>
    t.blk.cmdResult == 0x00010000 && t.blk.status t.build == 0x00000148) = true := by decide +kernel

/-- 45_host_commands.md R305. -/
theorem test_cnt_clear : nextSat (exec .cntClear (st (pendOn 1 { blk0 with cnt := ⟨1, 2, 3, 4, 5, 6⟩, evq := [.frame f20Frame] })))
    (fun t => t.blk.cnt == ⟨0, 0, 0, 0, 0, 0⟩ && t.blk.evq.length == 1 && t.blk.cmdResult == 0x00010100) = true := by
  decide +kernel

/-- HC-20. -/
theorem test_buf_flush : nextSat (exec .bufFlush (st (pendOn 2 { blk0 with sb := f20.take 12 }))) (fun t =>
    t.blk.sb == [] && t.blk.cnt.resync == 0) = true := by decide +kernel

/-- HC-21. -/
theorem test_evq_flush : nextSat (exec .evqFlush (st (pendOn 3 { blk0 with evq := [.frame f20Frame] }))) (fun t =>
    t.blk.evq == [] && t.blk.readWord t.build 0x400 == 0) = true := by decide +kernel

/-- HC-17. -/
theorem test_tx_flush : nextSat (exec .txFlush (st (pendOn 4 { blk0 with txf := [1, 2, 3] }))) (fun t =>
    t.blk.txf == [] && t.blk.status t.build == 0x00000148) = true := by decide +kernel

/-- CV-15. -/
theorem test_crc_init : nextSat (exec .crcInit (st (pendOn 0x10 { blk0 with crcState := 7 }))) (fun t =>
    t.blk.crcState == 0xFFFFFFFF && t.blk.readWord t.build 0x18 == 0) = true := by decide +kernel

/-- CV-11, its second byte. -/
theorem test_crc_byte : nextSat (exec (.crcByte 0x32) (st (pendOn 0x3211 { blk0 with crcState := 0x7C231048 }))) (fun t =>
    t.blk.crcState == 0xB0ACBB32) = true := by decide +kernel

/-- CV-2. -/
theorem test_crc_buf : nextSat (exec .crcBuf (st (pendOn 0x12 (withDec [0x31, 0x32, 0x33, 0x34, 0x35, 0x36, 0x37, 0x38, 0x39]))))
    (fun t => t.blk.crcState == 0x340BC6D9 && t.blk.readWord t.build 0x18 == 0xCBF43926) = true := by decide +kernel

/-- FC-1. -/
theorem test_frame_encode_ok : nextSat (exec .frameEncode (st (pendOn 0x20
    { blk0 with mtu := 20, txRunId := 0xBEEF, txSeq := 0x0102, txTotal := 0x0304, txPlen := 6
                mem := memAt 0x10000 [1, 2, 3, 4, 5, 6] }))) (fun t =>
    t.blk.txf == f20 && t.blk.encCrc == 0xCAD35BE6 && t.blk.cmdResult == 0x00012000) = true := by decide +kernel

/-- FC-4. -/
theorem test_frame_encode_bad_size : nextSat (exec .frameEncode (st (pendOn 0x20 { blk0 with mtu := 20, txPlen := 7 }))) (fun t =>
    t.blk.txf == [] && t.blk.cmdResult == 0x00012001) = true := by decide +kernel

/-- FD-1. -/
theorem test_frame_decode_ok : nextSat (exec .frameDecode (st (pendOn 0x21 (withDec f20)))) (fun t =>
    t.blk.cmdResult == 0x00012100 && t.blk.res == .frame f20Frame) = true := by decide +kernel

/-- FD-10: the CRC is good, the payload_len is not. -/
theorem test_frame_decode_bad_length : nextSat (exec .frameDecode (st (pendOn 0x21 (withDec
    [0x5A, 0xA5, 0xEF, 0xBE, 0x02, 0x01, 0x04, 0x03, 0x07, 0x00, 0x01, 0x02, 0x03, 0x04, 0x05, 0x06, 0x78, 0x5B, 0x79, 0x06]))))
    (fun t => t.blk.cmdResult == 0x00012103 && t.blk.readWord t.build 0x800 == 0x00000303) = true := by decide +kernel

/-- LP-1. -/
theorem test_line_parse_ok : nextSat (exec .lineParse (st (pendOn 0x22 (withDec end30)))) (fun t =>
    t.blk.cmdResult == 0x00012200 && t.blk.readWord t.build 0x800 == 0x00050002 &&
      t.blk.readWord t.build 0x801 == 0x0000BEEF) = true := by decide +kernel

/-- LE-1: no LF. -/
theorem test_line_parse_no_terminator : nextSat (exec .lineParse (st (pendOn 0x22 (withDec (end30.take 29))))) (fun t =>
    t.blk.cmdResult == 0x00012205 && t.blk.readWord t.build 0x800 == 0x01000504) = true := by decide +kernel

/-- CV-13. -/
theorem test_illegal : nextSat (exec (.illegal 0x00013111) (st (pendOn 0x00013111 blk0))) (fun t =>
    t.blk.cmdResult == 0x00011106 && t.blk.crcState == 0xFFFFFFFF) = true := by decide +kernel

/-- 45_host_commands.md R302. -/
theorem test_wr_cmd : nextSat (exec (.wrCmd 0x13) (st blk0)) (fun t => t.blk.busy && t.blk.pend == 0x13) = true := by decide

theorem test_wr_cmd_overrun : nextSat (exec (.wrCmd 0x13) (st (pendOn 0 blk0))) (fun t =>
    t.blk.pend == 0 && t.blk.sticky.errCmdOvr) = true := by decide

/-- HC-16. -/
theorem test_wr_ctrl_soft_reset : nextSat (exec (.wrCtrl 0x80000001) (st { pendOn 0x20 (demuxOn f20) with txSeq := 9 })) (fun t =>
    t.blk == blk0 && t.blk.readWord t.build 0x08 == 0) = true := by decide +kernel

theorem test_wr_ctrl_enable : nextSat (exec (.wrCtrl 0x7FFFFFFF) (st blk0)) (fun t =>
    t.blk == { blk0 with demuxEn := true }) = true := by decide

/-- HC-5. -/
theorem test_wr_status : nextSat (exec (.wrStatus 0x100) (st { blk0 with sticky := ⟨true, true, false, false, false, false⟩ }))
    (fun t => t.blk.sticky == ⟨false, true, false, false, false, false⟩) = true := by decide

/-- 45_host_commands.md R314. -/
theorem test_wr_irq_en : nextSat (exec (.wrIrqEn 0xFFFFFFFD) (st blk0)) (fun t => t.blk.irqEn == 0b101) = true := by decide

/-- HC-9. -/
theorem test_wr_mtu : nextSat (exec (.wrMtu 0x00010014) (st blk0)) (fun t =>
    t.blk.mtu == 0x14 && t.blk.readWord t.build 0x1D == 0x00000BB8) = true := by decide +kernel

/-- HC-7, HC-8 and the legal bounds between them (10_state.md R35). -/
theorem test_wr_mtu_bounds :
    ([13, 14, 256, 257].map fun d => nextSat (exec (.wrMtu d) (st blk0)) fun t => t.blk.sticky.errCfg) =
    [true, false, false, true] := by decide +kernel

theorem test_wr_tx_run_id : nextSat (exec (.wrTxRunId 0x5678BEEF) (st blk0)) (fun t =>
    t.blk == { blk0 with txRunId := 0xBEEF }) = true := by decide

theorem test_wr_tx_seq : nextSat (exec (.wrTxSeq 0x56780102) (st blk0)) (fun t => t.blk == { blk0 with txSeq := 0x0102 }) = true := by
  decide

theorem test_wr_tx_total : nextSat (exec (.wrTxTotal 0x56780304) (st blk0)) (fun t =>
    t.blk == { blk0 with txTotal := 0x0304 }) = true := by decide

theorem test_wr_tx_plen : nextSat (exec (.wrTxPlen 0x5678FFFF) (st blk0)) (fun t =>
    t.blk == { blk0 with txPlen := 0xFFFF }) = true := by decide

/-- HC-10. -/
theorem test_wr_dec_len :
    ([256, 257].map fun d => nextSat (exec (.wrDecLen d) (st blk0)) fun t => t.blk.decLen == 256 && !t.blk.sticky.errCfg) =
    [true, false] := by decide

theorem test_wr_tx_data : nextSat (exec (.wrTxData 0xFFFFFF41) (st { blk0 with txf := [1] })) (fun t =>
    t.blk.txf == [1, 0x41]) = true := by decide

/-- HC-18. -/
theorem test_wr_tx_data_full : nextSat (exec (.wrTxData 0x41) (st { blk0 with txf := List.replicate 512 0 })) (fun t =>
    t.blk.txf.length == 512 && t.blk.sticky.errTxOvf) = true := by decide +kernel

/-- HC-6. -/
theorem test_wr_evq_pop_empty : nextSat (exec (.wrEvqPop 0) (st blk0)) (fun t => t.blk.status t.build == 0x00002048) = true := by
  decide +kernel

theorem test_wr_evq_pop : nextSat (exec (.wrEvqPop 5) (st { blk0 with evq := [.none, .frame f20Frame] })) (fun t =>
    t.blk.evq == [.frame f20Frame]) = true := by decide

/-- HC-13: lanes 242 and 243 lie beyond PAY_BUF_SIZE. -/
theorem test_wr_pay : nextSat (exec (.wrPay 0x3C 0xDDCCBBAA) (st blk0)) (fun t =>
    t.blk.mem == [(0x100F0, 0xAA), (0x100F1, 0xBB)] && t.blk.readWord t.build 0x403C == 0x0000BBAA) = true := by decide +kernel

/-- 20_memory.md R73, R74: the last DEC word, and the first beyond DEC_BUF_SIZE. -/
theorem test_wr_dec :
    nextSat (exec (.wrDec 0x3F 0x04030201) (st blk0)) (fun t => t.blk.readWord t.build 0x803F == 0x04030201) = true ∧
      nextSat (exec (.wrDec 0x40 0x04030201) (st blk0)) (fun t => t.blk == blk0) = true := by decide +kernel

/-- HC-11. -/
theorem test_wr_other : nextSat (exec (.wrOther 5 5) (st blk0)) (fun t => t == st blk0) = true := by decide

/-- HC-12: the word at the misaligned address 0x00001. -/
theorem test_rd_any : nextSat (exec (decode (.busRead 0x00001)) (st blk0)) (fun t =>
    t.rdData == 0x52464231 && t.blk == blk0) = true := by decide +kernel

/-- DM-11. -/
theorem test_rx_deliver_at_cap :
    nextSat (exec (.rxDeliver 7) (st { blk0 with mtu := 14, sb := List.replicate 2100 0 })) (fun t =>
      t.blk.sb.length == 2100 && t.blk.sb.getLast? == some 7 && t.blk.cnt.overflow == 1) = true := by decide +kernel

theorem test_rx_deliver : nextSat (exec (.rxDeliver 7) (st { blk0 with sb := [1] })) (fun t => t.blk.sb == [1, 7]) = true := by
  decide +kernel

/-- 45_host_commands.md R309. -/
theorem test_tx_take : nextSat (exec .txTake (st { blk0 with txf := [1, 2] })) (fun t =>
    t.blk.txf == [2] && t.wire == [1]) = true := by decide

/-- HC-4. -/
theorem test_engine_complete : nextSat (exec .engineComplete (st (pendOn 0x00010000 blk0))) (fun t =>
    t.blk.cmdResult == 0x00010006 && !t.blk.busy) = true := by decide +kernel

/-- 42_frame_codec.md R180: a FIFO with one byte too few free holds the command. -/
theorem test_engine_held : nextSat (exec .engineComplete (st (pendOn 0x20
    { blk0 with mtu := 20, txPlen := 6, txf := List.replicate 493 0 }))) (fun t => t.blk.busy && t.blk.txf.length == 493) = true := by
  decide +kernel

/-- DM-1. -/
theorem test_demux_frame : nextSat (exec .demuxStep (st (demuxOn f20))) (fun t =>
    t.blk.evq == [.frame f20Frame] && t.blk.sb == [] && t.blk.cnt == ⟨1, 0, 0, 0, 0, 0⟩) = true := by decide +kernel

/-- DM-3, its first step. -/
theorem test_demux_bad_frame : nextSat (exec .demuxStep (st (demuxOn (f20.set 12 2)))) (fun t =>
    t.blk.evq == [.frameError .checksumMismatch] && t.blk.sb.length == 19 && t.blk.cnt == ⟨0, 0, 1, 0, 1, 0⟩) = true := by
  decide +kernel

/-! ## Witnesses: a concrete state and operands for the hypotheses of each statement, one for each clause -/

/-- StepRunsDecodedOperation; NothingStopsTheBlock has no hypothesis. -/
theorem witness_step : (⟨Build.vectors, blk0, [.txStep], 0, []⟩ : State).moves = .txStep :: [] ∧ (st blk0).moves = [] := by decide

/-- EncodeThenDecodeIsIdentity, at the edge of each restricted constructor. -/
theorem witness_wf : (Instr.illegal 0x23).wf = true ∧ (Instr.wrOther 0x3FFF 1).wf = true ∧ Instr.nop.wf = true := by decide

/-- AccessesActOnTheAlignedWord. -/
theorem witness_row : ∃ r ∈ commandRows, r.selects 0x0000FF11 = true :=
  ⟨⟨0x00000011, 0xFFFF00FF, fun w => .crcByte (imm8 w)⟩, by simp [commandRows], by decide⟩

/-- BusWritesSelectTheirRule: both sides of the windows and a gap of the register page. -/
theorem witness_other_address :
    [0x3FFF#16, 0xC000#16, 0x0005#16, 0x0000#16].all (fun k => decide ((4 * k.toNat < 0x10000 ∨ 0x30000 ≤ 4 * k.toNat) ∧
      4 * k.toNat ∉ [0x020, 0x024, 0x028, 0x02C, 0x040, 0x044, 0x048, 0x04C, 0x050, 0x054, 0x080, 0x084])) = true := by
  decide +kernel

/-- The command statements: each word can be the pending one. CRC_BYTE's for both ends of its operand. -/
theorem witness_pending :
    [0x00#32, 0x01, 0x02, 0x03, 0x04, 0x10, (0#16 ++ 0x00#8 ++ 0x11#8 : BitVec 32),
      (0#16 ++ 0xFF#8 ++ 0x11#8 : BitVec 32), 0x12, 0x20, 0x21, 0x22, 0x13].all (fun w =>
      decide ((st (pendOn w blk0)).blk.busy = true ∧ (st (pendOn w blk0)).blk.pend = w)) = true := by decide +kernel

/-- IllegalWordCompletes, and the illegal CRC_BYTE words of CrcCommandsComplete. -/
theorem witness_illegal :
    (∀ r ∈ commandRows, (0x13#32) &&& r.mask ≠ r.pattern) ∧ (st (pendOn 0x13 blk0)).blk.pend = 0x13 ∧
      (0x00010011#32).extractLsb' 0 8 = 0x11#8 ∧ (0x00010011#32).extractLsb' 16 16 ≠ 0#16 ∧ blk0.decLen = 0 := by decide

/-- OneChangedByteChangesCrc. -/
theorem witness_changed_byte : (0x00#8) ≠ 0x01#8 := by decide

/-- FrameEncodeCompletes: room for exactly the frame; another TX_PLEN; one byte too few free. -/
theorem witness_frame_encode :
    (∃ s : State, s.blk.busy = true ∧ s.blk.pend = 0x20 ∧ s.blk.txPlen.toNat = s.blk.mtu.toNat - 14 ∧
      s.blk.mtu.toNat ≤ s.build.txFifoDepth - s.blk.txf.length) ∧
    (∃ s : State, s.blk.busy = true ∧ s.blk.pend = 0x20 ∧ s.blk.txPlen.toNat ≠ s.blk.mtu.toNat - 14) ∧
    ∃ s : State, s.blk.busy = true ∧ s.blk.pend = 0x20 ∧ s.blk.txPlen.toNat = s.blk.mtu.toNat - 14 ∧
      s.build.txFifoDepth - s.blk.txf.length < s.blk.mtu.toNat :=
  ⟨⟨st (pendOn 0x20 { blk0 with mtu := 20, txPlen := 6, txf := List.replicate 492 0 }), by decide +kernel⟩,
    ⟨st (pendOn 0x20 { blk0 with mtu := 20, txPlen := 7 }), by decide +kernel⟩,
    ⟨st (pendOn 0x20 { blk0 with mtu := 20, txPlen := 6, txf := List.replicate 493 0 }), by decide +kernel⟩⟩

/-- FrameDecodeCompletes: a slice for each outcome and each corner case. -/
theorem witness_frame_decode :
    decodeFrame (withDec f20).decSlice 20 = .ok f20Frame ∧
    decodeFrame (withDec [0x5A]).decSlice 20 = .error .badMagic ∧
    decodeFrame (withDec (f20.take 19)).decSlice 20 = .error .badLength ∧
    decodeFrame (withDec (f20.set 12 2)).decSlice 20 = .error .checksumMismatch ∧
    (withDec [0x5A]).decLen.toNat ≤ 1 ∧
    ([0x5A, 0xA5] <+: (withDec (f20.take 19)).decSlice ∧ (withDec (f20.take 19)).decLen ≠ (withDec (f20.take 19)).mtu) ∧
    [0x5A, 0xA5] <+: (withDec (f20.set 8 7)).decSlice ∧ (withDec (f20.set 8 7)).decLen = (withDec (f20.set 8 7)).mtu ∧
      (rdLE16 (withDec (f20.set 8 7)).decSlice 8).toNat ≠ (withDec (f20.set 8 7)).mtu.toNat - 14 := by decide +kernel

/-- DecodeFrameChecksInOrder, with F14 of 95_test_vectors.md at the smallest MTU. -/
theorem witness_decode_checks :
    ¬ [0x5A, 0xA5] <+: ([0x5A] : Bytes) ∧
    ([0x5A, 0xA5] <+: f20 ∧ f20.length ≠ 21) ∧
    ([0x5A, 0xA5] <+: f20.set 8 7 ∧ (f20.set 8 7).length = 20 ∧ (rdLE16 (f20.set 8 7) 8).toNat ≠ 20 - 14) ∧
    ((rdLE16 (f20.set 19 0) 8).toNat = 20 - 14 ∧ rdLE32 (f20.set 19 0) (20 - 4) ≠ crc32 ((f20.set 19 0).take (20 - 4))) ∧
    rdLE32 ([0x5A, 0xA5, 0, 0, 0, 0, 0, 0, 0, 0, 0x54, 0xB9, 0x8F, 0xE3] : Bytes) (14 - 4) =
      crc32 (([0x5A, 0xA5, 0, 0, 0, 0, 0, 0, 0, 0, 0x54, 0xB9, 0x8F, 0xE3] : Bytes).take (14 - 4)) := by decide +kernel

/-- EncodedFrameLayout, DecodeOfEncodedFrame, FlippedBitOfFrameIsDetected: the smallest frame, its last bit. -/
theorem witness_frame_sizes :
    14 ≤ 14 ∧ 14 ≤ 65535 ∧ ([] : Bytes).length = 14 - 14 ∧ ([1, 2, 3, 4, 5, 6] : Bytes).length = 20 - 14 ∧ 13 < 14 ∧ 7 < 8 := by
  decide

/-- LineParseCompletes and the statements about accepted and rejected lines. -/
theorem witness_lines :
    parseLine 64 (withDec end30).decSlice = .ok ⟨.endMsg, 0xBEEF, 0, 0, 0, 0, 0, []⟩ ∧
    parseLine 64 (withDec [0x7B, 0x0A]).decSlice = .error .badSyntax ∧ (withDec []).decLen = 0 ∧
    ([0x0A] : Bytes) ≠ [] ∧ (∀ b ∈ ([0x20, 0x09, 0x0D] : Bytes), b = 0x20 ∨ b = 0x09 ∨ b = 0x0D) := by decide +kernel

/-- LineChecksInOrder: a body within the alphabet that is no object, one with an unknown kind, one that is accepted. -/
theorem witness_line_checks :
    (∀ b ∈ ([0x09, 0x0D, 0x20, 0x7E] : Bytes), b = 0x09 ∨ b = 0x0D ∨ (0x20 ≤ b.toNat ∧ b.toNat ≤ 0x7E)) ∧
    (parseBody [0x09, 0x0D, 0x20, 0x7E]).isNone = true ∧
    ((parseBody [0x7B, 0x7D]).map msgOf) = some (.error .noType) ∧
    ((parseBody end30.dropLast).map msgOf) = some (.ok .endMsg) ∧
    (∀ b ∈ end30.dropLast, b = 0x09 ∨ b = 0x0D ∨ (0x20 ≤ b.toNat ∧ b.toNat ≤ 0x7E)) := by decide +kernel

/-- LastOccurrenceOfKeyWins. -/
theorem witness_other_key : keyRunId ≠ keyType := by decide

/-- FieldKinds: the bounds of each kind. -/
theorem witness_field_kinds :
    (∀ t : NumTok, (Json.null) = .num t → t.neg = true ∨ t.frac ≠ [] ∨ t.exp = true) ∧
    (∀ t : NumTok, (Json.null) = .num t → t.neg = true ∨ t.exp = true) ∧
    (∀ es, (Json.null) = .arr es → ∃ e ∈ es, ∀ t, e = .num t → t.neg = true ∨ t.frac ≠ [] ∨ t.exp = true) ∧
    digitsValue [6, 5, 5, 3, 5] ≤ 65535 ∧ 65535 < digitsValue [6, 5, 5, 3, 6] ∧
    digitsValue [4, 2, 9, 4, 9, 6, 7, 2, 9, 5] ≤ 4294967295 ∧ 4294967295 < digitsValue [4, 2, 9, 4, 9, 6, 7, 2, 9, 6] ∧
    digitsValue [4, 2, 9, 4, 9, 6, 7, 2] * 100 + 10 * 9 + 5 ≤ 4294967295 ∧
    4294967295 < digitsValue [4, 2, 9, 4, 9, 6, 7, 2] * 100 + 10 * 9 + 6 ∧
    (∀ t ∈ [NumTok.mk false [6, 5, 5, 3, 6] [] false], t.neg = false ∧ t.frac = [] ∧ t.exp = false) ∧
    0 < [NumTok.mk false [0] [] false].length := by
  refine ⟨fun t h => (by cases h), fun t h => (by cases h), fun es h => (by cases h), ?_⟩
  decide

/-- MessageRecognition: a `type` string that is a name, one that is none, an absent and a present key. -/
theorem witness_kind_names :
    lookup [(keyType, .str Msg.endMsg.name)] keyType = some (.str Msg.endMsg.name) ∧ (∀ m : Msg, ([] : List Half) ≠ m.name) ∧
      lookup [] keyRunId = none :=
  ⟨by simp [lookup], by intro m; cases m <;> decide, rfl⟩

/-- CanonicalLinesParse: the fractions of LP-6, LP-7, LP-8, LP-10 and LP-11 of 95_test_vectors.md. -/
theorem witness_fractions :
    Script.isFraction 0 [0] ∧ Script.isFraction 1000 [0] ∧ Script.isFraction 3333 [3, 3, 3, 3, 3, 3] ∧
      Script.isFraction 599 [9, 9, 9] ∧ Script.isFraction 4294967295 [9, 5] := by
  unfold Script.isFraction; decide

/-- CanonicalLinesParse: a message of each kind, slots and list at their bounds. -/
theorem witness_messages :
    Script.isMessage 64 ⟨.sync, 0xFFFF, 65535, 65535, 65535, 0, 0, []⟩ ∧ Script.isMessage 64 ⟨.syncAck, 0, 0, 0, 0, 0, 0, []⟩ ∧
    Script.isMessage 64 ⟨.burst, 1, 0, 0, 0, 0, 0, List.replicate 64 0xFFFF⟩ ∧
    Script.isMessage 64 ⟨.report, 1, 0xFFFFFFFF, 0xFFFFFFFF, 0xFFFFFFFF, 0, 0, [3]⟩ ∧
    Script.isMessage 64 ⟨.endMsg, 1, 0, 0, 0, 0, 0, []⟩ ∧
    Script.isMessage 64 ⟨.finalMsg, 1, 0xFFFFFFFF, 0, 0xFFFFFFFF, 0, 1, []⟩ := by
  simp [Script.isMessage]

/-- LinesAndFramesDoNotCollide: a line the demultiplexer cuts, the shortest. -/
theorem witness_cut_line : classify 20 3000 [0x7B, 0x0A] = .line 1 := by decide

/-- PortStepsMoveOneByte: below, and at, the cap; with and without a byte in TXF. -/
theorem witness_ports :
    (∃ s : State, 0 < s.blk.mtu.toNat ∧ s.blk.sb.length < s.blk.mtu.toNat * 150) ∧
    (∃ s : State, 0 < s.blk.mtu.toNat ∧ s.blk.mtu.toNat * 150 ≤ s.blk.sb.length) ∧
    (∃ (s : State) (b : Byte) (rest : Bytes), s.blk.txf = b :: rest) ∧ ∃ s : State, s.blk.txf = [] :=
  ⟨⟨st blk0, by decide⟩, ⟨st { blk0 with mtu := 14, sb := List.replicate 2100 0 }, by decide +kernel⟩,
    ⟨st { blk0 with txf := [1, 2] }, 1, [2], rfl⟩, ⟨st blk0, rfl⟩⟩

/-- TransmitOrderIsKept and the statements over every operation: a step that is no soft reset and no TX_FLUSH. -/
theorem witness_plain_step :
    exec .txTake (st blk0) = .next (st blk0) ∧ isSoftReset .txTake = false ∧ ¬ completes .txFlush blk0 .txTake :=
  ⟨rfl, rfl, fun h => by simp [completes, blk0, Block.reset] at h⟩

/-- DemuxStepPerformsItsAction: each action, and the three reasons a step is not enabled. -/
theorem witness_demux_actions :
    [classify 20 3000 f20, classify 20 3000 (f20.set 12 2), classify 20 3000 end30, classify 20 3000 [0x7B, 0x80],
      classify 20 3 [0x7B, 0x61, 0x61], classify 20 3000 [0x00], classify 20 3000 [0x5A]] =
    [.frameOk f20Frame, .frameBad .checksumMismatch, .line 29, .dead, .full, .noise, .wait] ∧
    parseLine 64 (end30.take (29 + 1)) = .ok ⟨.endMsg, 0xBEEF, 0, 0, 0, 0, 0, []⟩ ∧
    parseLine 64 (([0x7B, 0x0A] : Bytes).take (1 + 1)) = .error .badSyntax ∧
    (demuxOn f20).demuxEn = true ∧ (demuxOn f20).evq.length < Build.vectors.evqDepth ∧ blk0.demuxEn = false ∧
    Build.vectors.evqDepth ≤ ({ demuxOn f20 with evq := [.none, .none, .none, .none] } : Block).evq.length := by decide +kernel

/-- DemuxWaitsExactlyThere, DemuxStepConsumesInput, DeliveryAndDemuxCommuteBelowCap. -/
theorem witness_demux_blocks :
    14 ≤ (demuxOn f20).mtu.toNat ∧ (demuxOn f20).demuxEnabled Build.vectors = true ∧
    (demuxOn f20).sb.length < (demuxOn f20).bufCap ∧
    ({ demuxOn [] with mtu := 14, sb := List.replicate 2100 0 } : Block).sb.length = 14 * 150 := by decide +kernel

/-- NoiseBeforeFrameIsSkipped: vectors DM-2 (N = 4) and DM-15 (N = 20, a false magic), noise before F20. -/
theorem witness_noise (noise : Bytes) (h : noise = [0x00, 0x5A, 0x00, 0x7B] ∨ noise = [0x5A, 0xA5] ++ List.replicate 18 0) :
    (demuxOn (noise ++ f20)).sb =
      noise ++ encodeFrame 0xBEEF 0x0102 0x0304 [1, 2, 3, 4, 5, 6] (demuxOn (noise ++ f20)).mtu.toNat ++ [] ∧
    14 ≤ (demuxOn (noise ++ f20)).mtu.toNat ∧
    ([1, 2, 3, 4, 5, 6] : Bytes).length = (demuxOn (noise ++ f20)).mtu.toNat - 14 ∧
    (demuxOn (noise ++ f20)).demuxEn = true ∧
    ∀ i, i ≤ noise.length → (demuxOn (noise ++ f20)).mtu.toNat + ([] : Bytes).length ≤
        (Script.demuxRun Build.vectors i (demuxOn (noise ++ f20))).sb.length →
      (Script.demuxRun Build.vectors i (demuxOn (noise ++ f20))).evq.length < Build.vectors.evqDepth := by
  rcases h with rfl | rfl <;> decide +kernel

/-- CmdWriteOffersWord and every statement that distinguishes BUSY. -/
theorem witness_busy : (st blk0).blk.busy = false ∧ (st (pendOn 0 blk0)).blk.busy = true := by decide

/-- CtrlWriteResetsOrEnables. -/
theorem witness_ctrl : (0x80000000#32).getLsbD 31 = true ∧ (0x7FFFFFFF#32).getLsbD 31 = false := by decide

/-- MtuWriteIsWarl and OperandRegisterWrites: the bounds of the two WARL registers, and both values of DEMUX_EN. -/
theorem witness_warl :
    (0x0013000D#32).extractLsb' 0 16 = 13#16 ∧ (13#16).toNat < 14 ∧ 14 ≤ (14#16).toNat ∧
    (256#16).toNat ≤ (st blk0).build.mtuMax ∧ (st blk0).build.mtuMax < (257#16).toNat ∧
    (st blk0).blk.demuxEn = false ∧ (st (demuxOn [])).blk.demuxEn = true := by decide

/-- QueueWrites: a FIFO with room and a full one, an empty queue and one with an event. -/
theorem witness_queues :
    (st blk0).blk.txf.length ≠ (st blk0).build.txFifoDepth ∧
    (st { blk0 with txf := List.replicate 512 0 }).blk.txf.length = Build.vectors.txFifoDepth ∧ (st blk0).blk.evq = [] ∧
    (st { blk0 with evq := [.frame f20Frame] }).blk.evq = .frame f20Frame :: [] := by decide +kernel

/-- WindowAccessesTheirLanes: lanes on both sides of PAY's and DEC's ends. -/
theorem witness_windows :
    (st blk0).blk.mem.wf ∧ 4 * (0x3C#14).toNat + 1 < Build.vectors.mtuMax - 14 ∧ ¬ 4 * (0x3C#14).toNat + 2 < Build.vectors.mtuMax - 14 ∧
    4 * (0x3F#14).toNat + 3 < Build.vectors.mtuMax ∧ ¬ 4 * (0x40#14).toNat < Build.vectors.mtuMax := by decide

/-- GuardedWritesRefusedWhileBusy. -/
theorem witness_guarded : isGuardedWrite (.wrDec 0 0) = true ∧ isGuardedWrite (.wrCtrl 0) = false := by decide

/-- RegistersReadTheirValues, PowerOnResetValues, ResetMeetsInvariant: the vectors' build and the extreme ones are legal. -/
theorem witness_builds :
    Build.vectors.Legal ∧ (⟨14, 1, 1, 14⟩ : Build).Legal ∧ (⟨65535, 1008, 255, 2 ^ 24⟩ : Build).Legal := by decide

/-- RegistersReadTheirValues: a read-only register's address. -/
theorem witness_read_only : (0x0B4#18) ∈ [0x000#18, 0x0B4#18] := by decide

/-- ReservedAddressesAreInert: an address in each range, at its bounds. -/
theorem witness_reserved :
    [0x0005#16, 0x0007, 0x000D, 0x000F, 0x0017, 0x001A, 0x001B, 0x0022, 0x0027, 0x002E, 0x03FF, 0x0C00, 0x3FFF, 0xC000,
      0xFFFF].all (fun k => decide ((0x014 ≤ 4 * k.toNat ∧ 4 * k.toNat ≤ 0x01C) ∨ (0x034 ≤ 4 * k.toNat ∧ 4 * k.toNat ≤ 0x03C) ∨ 4 * k.toNat = 0x05C ∨
        (0x068 ≤ 4 * k.toNat ∧ 4 * k.toNat ≤ 0x06C) ∨ (0x088 ≤ 4 * k.toNat ∧ 4 * k.toNat ≤ 0x09C) ∨
        (0x0B8 ≤ 4 * k.toNat ∧ 4 * k.toNat ≤ 0xFFC) ∨ (0x03000 ≤ 4 * k.toNat ∧ 4 * k.toNat < 0x10000) ∨
        0x30000 ≤ 4 * k.toNat)) = true := by decide +kernel

/-- StatusBitsByFormula. -/
theorem witness_status_write : (0xFFFFC0FF#32) &&& 0x00003F00 = 0 ∧ 14 ≤ 14 := by decide

/-- RecordWindowsShowRecords, RecordsRenderByLayout: the last word of the window, both kinds of queue, the largest LIST_MAX. -/
theorem witness_record_windows :
    0xFFC < 0x1000 ∧ 0xFFC % 4 = 0 ∧ (1008 : Nat) ≤ 1008 ∧ blk0.evq = [] ∧
      ({ blk0 with evq := [.frame f20Frame] } : Block).evq = .frame f20Frame :: [] := by decide

/-- PendAndQueuedEventsAreHidden. -/
theorem witness_hidden :
    [Record.frame f20Frame, Record.none].length = ({ blk0 with evq := [.frame f20Frame, .frame f20Frame] } : Block).evq.length ∧
      [Record.frame f20Frame, Record.none].head? =
        ({ blk0 with evq := [.frame f20Frame, .frame f20Frame] } : Block).evq.head? := by decide

/-- StepKeepsInvariant: a state with the invariant, beside reset. -/
theorem witness_invariant : ∃ s : State, s.Inv ∧ s.blk.sb ≠ [] ∧ s.blk.mem ≠ [] := by
  refine ⟨st { blk0 with sb := [1], mem := [(0x10000, 1)] }, ⟨by decide, ?_⟩, by decide, by decide⟩
  exact
    { mtuLegal := by decide, sbBound := by decide, evqBound := by decide, txfBound := by decide, decLenLegal := by decide
      memWf := by decide
      memInside := fun c hc => by
        obtain rfl : c = (0x10000, 1) := by simpa [st] using hc
        exact .inl (by decide)
      events := fun r hr => by cases hr
      resFits := trivial, resultOk := .inl rfl, doneValid := by decide }

/-- EngineCompletesPendingCommand: a command that is not held, a held FRAME_ENCODE. -/
theorem witness_engine :
    ¬ (pendOn 0 blk0).held Build.vectors ∧
      Block.held Build.vectors (pendOn 0x20 { blk0 with mtu := 20, txPlen := 6, txf := List.replicate 493 0 }) := by
  constructor
  · intro h; exact absurd h.1 (by decide)
  · exact ⟨by decide, by decide, by decide +kernel⟩

/-- StickyBitsChangeOnlyByRule: each bit is set by a step and cleared by a step. -/
theorem witness_sticky :
    nextSat (exec .engineComplete (st (pendOn 0 blk0))) (fun t => t.blk.sticky.cmdDone) = true ∧
    nextSat (exec (.wrCmd 0) (st (pendOn 0 blk0))) (fun t => t.blk.sticky.errCmdOvr) = true ∧
    nextSat (exec (.wrMtu 20) (st (pendOn 0 blk0))) (fun t => t.blk.sticky.errWrBusy) = true ∧
    nextSat (exec (.wrMtu 13) (st blk0)) (fun t => t.blk.sticky.errCfg) = true ∧
    nextSat (exec (.wrEvqPop 0) (st blk0)) (fun t => t.blk.sticky.errEvqUnf) = true ∧
    nextSat (exec (.wrStatus 0x3F00) (st { blk0 with sticky := ⟨true, true, true, true, true, true⟩ }))
      (fun t => t.blk.sticky == ⟨false, false, false, false, false, false⟩) = true := by decide +kernel

/-- ResWrittenOnlyByDecodeAndParse, CrcEngineIsIndependent, CountersChangeOnlyByRule, EngineAndDemuxAreIndependent: completions by
the ENGINE and by the command's own operation. -/
theorem witness_completes :
    completes .frameDecode (pendOn 0x21 blk0) .engineComplete ∧ completes .lineParse (pendOn 0x22 blk0) .lineParse ∧
    completes .crcInit (pendOn 0x10 blk0) .crcInit ∧ completes (.crcByte 0xFF) (pendOn 0xFF11 blk0) .engineComplete ∧
    completes .crcBuf (pendOn 0x12 blk0) .crcBuf ∧ completes .cntClear (pendOn 1 blk0) .engineComplete ∧
    ¬ completes .crcInit (pendOn 0x20 blk0) .engineComplete := by
  refine ⟨⟨rfl, rfl, .inl rfl⟩, ⟨rfl, rfl, .inr rfl⟩, ⟨rfl, rfl, .inr rfl⟩, ⟨rfl, rfl, .inl rfl⟩, ⟨rfl, rfl, .inr rfl⟩,
    ⟨rfl, rfl, .inl rfl⟩, fun h => ?_⟩
  exact absurd h.2.1 (by decide)

/-- The statements on a change: RES, CRC_STATE and a counter do change in some step. -/
theorem witness_changes :
    nextSat (exec .engineComplete (st (pendOn 0x21 blk0))) (fun t => t.blk.res != blk0.res) = true ∧
    nextSat (exec .crcBuf (st (pendOn 0x12 (withDec [0])))) (fun t => t.blk.crcState != blk0.crcState) = true ∧
    nextSat (exec .demuxStep (st (demuxOn [0]))) (fun t => t.blk.cnt != blk0.cnt) = true := by decide +kernel

/-- CommandInputsStableWhileBusy and EventHeadIsStable: a step with BUSY = 1 on both sides, and a queue with a head. -/
theorem witness_stable :
    nextSat (exec (.wrMtu 20) (st (pendOn 0 { blk0 with evq := [.frame f20Frame] })))
      (fun t => t.blk.busy && t.blk.evq == [.frame f20Frame]) = true := by decide

end Sys2Proof.Tests
end

/-! SUPPORT. Proofs of the statements about the state. First what a bus access reaches: the decoder of a write, and the word a
read returns (10_state.md R23-R50, 20_memory.md R71, 45_host_commands.md R300, R301). -/

section

/- One theorem after the other: each concurrent elaboration reserves a thread's stack of memory. -/
set_option Elab.async false

namespace Sys2Proof.Machine

/-! ## Registers and their offsets -/

/-- The register found at an offset is the one whose offset it is. -/
theorem regAt_eq_some {a : Nat} {r : Reg} (h : regAt a = some r) : r.offset = a := by
  have table : ∀ e ∈ regMap, e.2.offset = e.1 := by decide
  unfold regAt at h
  obtain ⟨e, he, rfl⟩ := Option.map_eq_some_iff.mp h
  have key : e.1 = a := by simpa using List.find?_some he
  exact (table e (List.mem_of_find?_eq_some he)).trans key

@[simp] theorem regAt_offset (r : Reg) : regAt r.offset = some r := by
  cases r <;> rfl

/-- A reserved offset of the register page (R26). -/
def IsReservedOffset (a : Nat) : Prop :=
  (0x014 ≤ a ∧ a ≤ 0x01C) ∨ (0x034 ≤ a ∧ a ≤ 0x03C) ∨ a = 0x05C ∨ (0x068 ≤ a ∧ a ≤ 0x06C) ∨ (0x088 ≤ a ∧ a ≤ 0x09C) ∨
    (0x0B8 ≤ a ∧ a ≤ 0xFFC)

theorem Reg.offset_not_reserved (r : Reg) : ¬ IsReservedOffset r.offset := by
  cases r <;> simp [IsReservedOffset, Reg.offset]

theorem regAt_of_reserved {a : Nat} (h : IsReservedOffset a) : regAt a = none := by
  cases hr : regAt a with
  | none => rfl
  | some r => exact absurd (regAt_eq_some hr ▸ h) (Reg.offset_not_reserved r)

/-! ## Regions of the address map (R71) -/

/-- Every region an address can lie in, with its bounds. -/
theorem regionOf_cases (a : Nat) :
    (a < 0x01000 ∧ regionOf a = .reg a) ∨ (0x01000 ≤ a ∧ a < 0x02000 ∧ regionOf a = .evt (a - 0x01000)) ∨
      (0x02000 ≤ a ∧ a < 0x03000 ∧ regionOf a = .res (a - 0x02000)) ∨
      (0x10000 ≤ a ∧ a < 0x20000 ∧ regionOf a = .pay (a - 0x10000)) ∨
      (0x20000 ≤ a ∧ a < 0x30000 ∧ regionOf a = .dec (a - 0x20000)) ∨
      (((0x03000 ≤ a ∧ a < 0x10000) ∨ 0x30000 ≤ a) ∧ regionOf a = .reserved) := by
  unfold regionOf
  split_ifs <;> simp <;> omega

theorem regionOf_reg {a : Nat} (h : a < 0x01000) : regionOf a = .reg a := by
  simp [regionOf, h]

theorem regionOf_reserved {a : Nat} (h : (0x03000 ≤ a ∧ a < 0x10000) ∨ 0x30000 ≤ a) : regionOf a = .reserved := by
  rw [regionOf, if_neg (by omega), if_neg (by omega), if_neg (by omega)]
  split_ifs
  · rfl
  · omega
  · omega
  · rfl

/-! ## Writes that nothing takes (R300) -/

/-- The word index of an address is its upper sixteen bits; the lane bits are dropped (R72). -/
theorem wordIndex_append (k : BitVec 16) (l : BitVec 2) : wordIndex (k ++ l) = k := by
  unfold wordIndex
  ext i hi
  rw [BitVec.getElem_extractLsb', BitVec.getLsbD_append, if_neg (by omega), Nat.add_sub_cancel_left]
  exact BitVec.getLsbD_eq_getElem hi

/-- A write at a word with no write rule of its own is the write that is ignored. -/
theorem decodeWrite_eq_wrOther {k : BitVec 16} (d : Word) (h : hasWriteRule k = false) :
    decodeWrite k d = .wrOther k d := by
  simp only [hasWriteRule, Bool.or_eq_false_iff, Bool.and_eq_false_iff, decide_eq_false_iff_not] at h
  obtain ⟨noReg, noWindow⟩ := h
  unfold decodeWrite
  rcases regionOf_cases (4 * k.toNat) with ⟨-, hr⟩ | ⟨-, -, hr⟩ | ⟨-, -, hr⟩ | ⟨lo, hi, -⟩ | ⟨lo, hi, -⟩ | ⟨-, hr⟩
  · rw [hr]
    cases hreg : regAt (4 * k.toNat) with
    | none => simp [hreg]
    | some r =>
      rw [← regAt_eq_some hreg] at noReg
      cases r <;> simp [hreg, writeRuleOffsets, Reg.offset] at noReg ⊢
  · rw [hr]
  · rw [hr]
  · omega
  · omega
  · rw [hr]

/-- A bus write at a word with no write rule changes nothing. -/
theorem exec_busWrite_ignored {o : Addr} (d : Word) (s : State) (h : hasWriteRule (wordIndex o) = false) :
    exec (decode (.busWrite o d)) s = .next s := by
  have other : decode (.busWrite o d) = .wrOther (wordIndex o) d := decodeWrite_eq_wrOther d h
  rw [other]
  rfl

/-! ## Reads (R301) -/

/-- A read answers the word at its word index and leaves the block alone. -/
theorem readsAs_readWord (p : Build) (b : Block) (o : Nat) : readsAs p b o (b.readWord p (BitVec.ofNat 16 (o / 4))) := by
  rintro s rfl rfl
  rfl

/-- A read at a register's offset answers the register. -/
theorem readsAs_readReg (p : Build) (b : Block) (r : Reg) : readsAs p b r.offset (b.readReg p r) := by
  have aligned : 4 * (BitVec.ofNat 16 (r.offset / 4)).toNat = r.offset := by cases r <;> rfl
  have page : r.offset < 0x01000 := by cases r <;> decide
  have word : b.readWord p (BitVec.ofNat 16 (r.offset / 4)) = b.readReg p r := by
    unfold Block.readWord
    rw [aligned, regionOf_reg page]
    simp
  exact word ▸ readsAs_readWord p b r.offset

/-- A reserved address: an offset of R26, or one of the two regions of R71 that hold nothing. -/
def IsReservedAddress (a : Nat) : Prop := IsReservedOffset a ∨ (0x03000 ≤ a ∧ a < 0x10000) ∨ 0x30000 ≤ a

/-- A reserved word reads 0. -/
theorem readWord_of_reserved (p : Build) (b : Block) {k : BitVec 16} (h : IsReservedAddress (4 * k.toNat)) :
    b.readWord p k = 0 := by
  unfold Block.readWord
  rcases h with h | h
  · have page : 4 * k.toNat < 0x01000 := by unfold IsReservedOffset at h; omega
    simp [regionOf_reg page, regAt_of_reserved h]
  · rw [regionOf_reserved h]

/-- A reserved word has no write rule. -/
theorem hasWriteRule_of_reserved {k : BitVec 16} (h : IsReservedAddress (4 * k.toNat)) : hasWriteRule k = false := by
  unfold IsReservedAddress IsReservedOffset at h
  simp [hasWriteRule, writeRuleOffsets]
  omega

/-- Settles O42: a reserved word is no register and no window word, so a read finds 0 and a write has no rule. -/
theorem reservedAddressesAreInert : Obligations.ReservedAddressesAreInert := by
  rintro k a rfl h
  have reserved : IsReservedAddress (4 * k.toNat) := by
    unfold IsReservedAddress IsReservedOffset
    omega
  have index : BitVec.ofNat 16 (4 * k.toNat / 4) = k := by simp
  refine ⟨fun p b => ?_, fun l d s => exec_busWrite_ignored d s ?_⟩
  · have read := readsAs_readWord p b (4 * k.toNat)
    rwa [index, readWord_of_reserved p b reserved] at read
  · rw [wordIndex_append]
    exact hasWriteRule_of_reserved reserved

/-! ## The registers (R23-R50) -/

/-- The word of a read-only register has no write rule. -/
theorem hasWriteRule_of_readOnly {o : Addr}
    (h : o ∈ [0x000#18, 0x004#18, 0x008#18, 0x00C#18, 0x010#18, 0x030#18, 0x058#18, 0x060#18, 0x064#18, 0x070#18, 0x074#18,
      0x078#18, 0x07C#18, 0x0A0#18, 0x0A4#18, 0x0A8#18, 0x0AC#18, 0x0B0#18, 0x0B4#18]) :
    hasWriteRule (wordIndex o) = false := by
  revert o
  simp [hasWriteRule, wordIndex, writeRuleOffsets]

/-- Settles O41: every register is found at its offset; the parameter registers hold their values without loss in a legal
build; a read-only register's word has no write rule. -/
theorem registersReadTheirValues : Obligations.RegistersReadTheirValues := by
  refine ⟨fun p hp b => ?_, fun o d s ho => exec_busWrite_ignored d s ?_⟩
  · obtain ⟨-, -, ⟨-, hEvq⟩, -, hTx⟩ := hp
    have param1 : b.readReg p .param1 = BitVec.ofNat 32 p.evqDepth := by
      apply BitVec.eq_of_toNat_eq
      rw [Block.readReg, BitVec.toNat_append]
      simp
      omega
    have param2 : b.readReg p .param2 = BitVec.ofNat 32 p.txFifoDepth := by
      apply BitVec.eq_of_toNat_eq
      rw [Block.readReg, BitVec.toNat_append]
      simp
      omega
    exact ⟨readsAs_readReg p b .id, readsAs_readReg p b .version, readsAs_readReg p b .param0,
      param1 ▸ readsAs_readReg p b .param1, param2 ▸ readsAs_readReg p b .param2, readsAs_readReg p b .ctrl,
      readsAs_readReg p b .irqEn, readsAs_readReg p b .cmd, readsAs_readReg p b .cmdResult, readsAs_readReg p b .mtu,
      readsAs_readReg p b .txRunId, readsAs_readReg p b .txSeq, readsAs_readReg p b .txTotal, readsAs_readReg p b .txPlen,
      readsAs_readReg p b .decLen, readsAs_readReg p b .encCrc, readsAs_readReg p b .crcValue,
      readsAs_readReg p b .crcState, readsAs_readReg p b .bufLevel, readsAs_readReg p b .bufCap,
      readsAs_readReg p b .evqLevel, readsAs_readReg p b .txLevel, readsAs_readReg p b .txData,
      readsAs_readReg p b .evqPop, readsAs_readReg p b .cntFrames, readsAs_readReg p b .cntControl,
      readsAs_readReg p b .cntFrameErr, readsAs_readReg p b .cntLineErr, readsAs_readReg p b .cntResync,
      readsAs_readReg p b .cntOverflow⟩
  · exact hasWriteRule_of_readOnly ho

end Sys2Proof.Machine

end

/-! SUPPORT. The STATUS word bit by bit (10_state.md R29, R30). -/

section

/- One theorem after the other: each concurrent elaboration reserves a thread's stack of memory. -/
set_option Elab.async false

namespace Sys2Proof.Machine

/-- A flag has one bit. -/
@[simp] theorem getLsbD_flag (i j : Nat) (x : Bool) : (flag i x).getLsbD j = (decide (i = j ∧ j < 32) && x) := by
  cases x with
  | false => simp [flag]
  | true =>
    rw [Bool.eq_iff_iff]
    simp [flag, BitVec.getLsbD_one]
    omega

/-- Bit `i` of STATUS, with R29's table of places. -/
theorem Block.status_getLsbD (p : Build) (b : Block) (i : Nat) :
    (b.status p).getLsbD i =
      ([b.busy, b.evqNe, b.evqFull p, b.txEmpty, b.txFull p, b.bufFull, b.demuxIdle p, false, b.sticky.cmdDone,
        b.sticky.errCmdOvr, b.sticky.errWrBusy, b.sticky.errCfg, b.sticky.errTxOvf, b.sticky.errEvqUnf].getD i false) := by
  by_cases h : i < 14
  · simp only [Block.status, Block.liveBits, Sticky.bits, BitVec.getLsbD_or, getLsbD_flag]
    interval_cases i <;> simp
  · rw [List.getD_eq_default _ _ (by simpa using h)]
    simp [Block.status, Block.liveBits, Sticky.bits]
    omega

/-- A STATUS write with zeros in the sticky bits' places clears none (R312). -/
theorem Sticky.clear_eq_self (k : Sticky) {d : Word} (h : ∀ i, 8 ≤ i → i ≤ 13 → d.getLsbD i = false) : k.clear d = k := by
  simp [Sticky.clear, h, -BitVec.getLsbD_eq_getElem]

/-- DEMUX_IDLE is set exactly while the DEMUX step is not enabled (R30). -/
theorem Block.demuxIdle_iff (p : Build) (b : Block) :
    b.demuxIdle p = true ↔ ¬ (b.demuxEn = true ∧ b.evq.length < p.evqDepth ∧ b.action ≠ .wait) := by
  rw [← Block.demuxEnabled_iff, Block.demuxIdle, Bool.not_eq_true', Bool.not_eq_true]

/-- Settles O43: a word that is 0 under the sticky mask clears nothing; each bit of STATUS is its flag's. -/
theorem statusBitsByFormula : Obligations.StatusBitsByFormula := by
  refine ⟨fun s d hd => ?_, fun p b => ?_⟩
  · have zero : ∀ i, 8 ≤ i → i ≤ 13 → d.getLsbD i = false := by
      intro i lo hi
      have bit : (d &&& 0x00003F00).getLsbD i = false := by rw [hd]; simp
      interval_cases i <;> simpa using bit
    have same : writeStatus d s.build s.blk = s.blk := by rw [writeStatus, Sticky.clear_eq_self _ zero]
    show Host.Outcome.next (s.withBlk (writeStatus d s.build s.blk)) = .next s
    rw [same]
    rfl
  · refine ⟨readsAs_readReg p b .status, ?_⟩
    simp only [Block.status_getLsbD]
    refine ⟨rfl, rfl, ?_, ?_, ?_, ?_, Block.demuxIdle_iff p b, rfl, rfl, rfl, rfl, rfl, rfl, rfl, fun i hi => ?_⟩
    · simp [Block.evqFull, beq_eq_decide]
    · simp [Block.txEmpty, beq_eq_decide]
    · simp [Block.txFull, beq_eq_decide]
    · simp [Block.bufFull, Block.bufCap, beq_eq_decide]
    · exact List.getD_eq_default _ _ hi

end Sys2Proof.Machine

end

/-! SUPPORT. The commands under one roof: what each performs, that its operation and the ENGINE's step are the completion envelope
around that, and what it leaves alone (45_host_commands.md R303). -/

section

/- One theorem after the other: each concurrent elaboration reserves a thread's stack of memory. -/
set_option Elab.async false

namespace Sys2Proof.Machine

/-- What a command performs inside its envelope (R303). -/
def performOf : Command → Build → Block → Option (Block × ResultCode)
  | .nop => performNop
  | .cntClear => performCntClear
  | .bufFlush => performBufFlush
  | .evqFlush => performEvqFlush
  | .txFlush => performTxFlush
  | .crcInit => performCrcInit
  | .crcByte imm8 => performCrcByte imm8
  | .crcBuf => performCrcBuf
  | .frameEncode => performFrameEncode
  | .frameDecode => performFrameDecode
  | .lineParse => performLineParse
  | .illegal _ => performIllegal

/-- A command's own operation is its completion. -/
theorem exec_instr (c : Command) (s : State) : exec c.instr s = onBlock (completeWith c.word (performOf c)) s := by
  cases c <;> rfl

/-- The ENGINE's step is the operation of the pending command. -/
theorem exec_engineComplete (s : State) : exec .engineComplete s = exec (decodeCommand s.blk.pend).instr s := by
  show runCommand (decodeCommand s.blk.pend) s = _
  cases decodeCommand s.blk.pend <;> rfl

/-- What no command touches before its completion: the RAM, BUSY and PEND, the registers but ENC_CRC, the sticky bits. -/
theorem performOf_frame {c : Command} {p : Build} {b b' : Block} {r : ResultCode} (h : performOf c p b = some (b', r)) :
    b' = { b with sb := b'.sb, evq := b'.evq, txf := b'.txf, crcState := b'.crcState, res := b'.res, encCrc := b'.encCrc,
                  cnt := b'.cnt } := by
  cases c <;> simp only [performOf] at h
  case frameEncode =>
    unfold performFrameEncode at h
    split_ifs at h <;> cases h <;> rfl
  case frameDecode =>
    unfold performFrameDecode at h
    split at h <;> cases h <;> rfl
  case lineParse =>
    unfold performLineParse at h
    split at h <;> cases h <;> rfl
  all_goals cases h; rfl

theorem performOf_sticky {c : Command} {p : Build} {b b' : Block} {r : ResultCode} (h : performOf c p b = some (b', r)) :
    b'.sticky = b.sticky := by
  rw [performOf_frame h]

/-- The mask of every row but CRC_BYTE's keeps the whole word. -/
theorem and_fullMask (w : Word) : w &&& 0xFFFFFFFF#32 = w := BitVec.and_allOnes

/-- A word outside R101's table selects no row, so it is illegal (R102). -/
theorem decodeCommand_of_not_isCommandWord {w : Word} (h : isCommandWord w = false) : decodeCommand w = .illegal w := by
  have unselected : commandRows.find? (·.selects w) = none := by
    simp [isCommandWord] at h
    simp [commandRows, CommandRow.selects, and_fullMask, h]
  rw [decodeCommand, unselected]

/-- CRC_BYTE's word gives its operand back, each of the 256. -/
theorem decodeCommand_crcByte_word : ∀ b : Byte, decodeCommand (Command.crcByte b).word = .crcByte b := by
  decide

/-- The command word of a well-formed command decodes to it. -/
theorem decodeCommand_word {c : Command} (h : c.instr.wf = true) : decodeCommand c.word = c := by
  cases c with
  | illegal w => exact decodeCommand_of_not_isCommandWord (by simpa [Command.instr, Command.word, Instr.wf] using h)
  | crcByte b => exact decodeCommand_crcByte_word b
  | _ => rfl

end Sys2Proof.Machine

end

/-! SUPPORT. The sticky bits (10_state.md R31, 60_exceptions.md R352): the events that set and clear them, and that every operation
is one of them. -/

section

/- One theorem after the other: each concurrent elaboration reserves a thread's stack of memory. -/
set_option Elab.async false

namespace Sys2Proof.Machine

/-- What the operation `i` does to the sticky bits on the way from `b` to `b'`: nothing, or one of the events R31, R303, R312,
R352 and R381 name. -/
inductive StickyEvent (p : Build) (b : Block) (i : Instr) (b' : Block) : Prop where
  | unchanged (h : b'.sticky = b.sticky)
  | softReset (hi : isSoftReset i = true) (h : b'.sticky = ⟨false, false, false, false, false, false⟩)
  | statusWrite (d : Word) (hi : i = .wrStatus d) (h : b'.sticky = b.sticky.clear d)
  | completion (hi : completes (decodeCommand b.pend) b i) (hbusy : b'.busy = false)
      (h : b'.sticky = { b.sticky with cmdDone := true })
  | commandOverrun (hbusy : b.busy = true) (hi : ∃ d, i = .wrCmd d) (h : b'.sticky = { b.sticky with errCmdOvr := true })
  | writeWhileBusy (hbusy : b.busy = true) (hi : isGuardedWrite i = true)
      (h : b'.sticky = { b.sticky with errWrBusy := true })
  | illegalConfig
      (hi : (∃ d, i = .wrMtu d ∧ (b.demuxEn = true ∨ (lowHalf d).toNat < 14 ∨ p.mtuMax < (lowHalf d).toNat)) ∨
        ∃ d, i = .wrDecLen d ∧ p.mtuMax < (lowHalf d).toNat)
      (h : b'.sticky = { b.sticky with errCfg := true })
  | txOverflow (hi : ∃ d, i = .wrTxData d) (hfull : b.txf.length = p.txFifoDepth)
      (h : b'.sticky = { b.sticky with errTxOvf := true })
  | evqUnderflow (hi : ∃ d, i = .wrEvqPop d) (hempty : b.evq = []) (h : b'.sticky = { b.sticky with errEvqUnf := true })

/-! ## Each operation's event -/

/-- A completion envelope: nothing, or a completion. -/
theorem stickyEvent_completeWith {c : Command} {p : Build} {b : Block} {i : Instr}
    (hi : b.pend = c.word → i = .engineComplete ∨ i = (decodeCommand b.pend).instr) :
    StickyEvent p b i (completeWith c.word (performOf c) p b) := by
  rcases completeWith_cases c.word (performOf c) p b with ⟨same, -⟩ | ⟨b', r, pending, performed, done⟩
  · exact .unchanged (by rw [same])
  · obtain ⟨busy, word⟩ := (b.pending_iff c.word).mp pending
    rw [done]
    exact .completion ⟨busy, rfl, hi word⟩ rfl (by rw [Block.complete_sticky, performOf_sticky performed])

/-- A guarded write: refused while BUSY, else its own effect's event. -/
theorem stickyEvent_guardedWrite {f : Block → Block} {p : Build} {b : Block} {i : Instr} (hi : isGuardedWrite i = true)
    (hf : StickyEvent p b i (f b)) : StickyEvent p b i (guardedWrite f b) := by
  cases busy : b.busy with
  | true => rw [guardedWrite_busy f b busy]; exact .writeWhileBusy busy hi rfl
  | false => rwa [guardedWrite_free f b busy]

/-- A guarded write whose own effect touches no sticky bit. -/
theorem stickyEvent_guardedUpdate {f : Block → Block} {p : Build} {b : Block} {i : Instr} (hi : isGuardedWrite i = true)
    (hf : ∀ b, (f b).sticky = b.sticky) : StickyEvent p b i (guardedWrite f b) :=
  stickyEvent_guardedWrite hi (.unchanged (hf b))

theorem stickyEvent_writeCmd (d : Word) (p : Build) (b : Block) : StickyEvent p b (.wrCmd d) (writeCmd d p b) := by
  unfold writeCmd
  split
  · exact .commandOverrun ‹_› ⟨d, rfl⟩ rfl
  · exact .unchanged rfl

theorem stickyEvent_writeCtrl (d : Word) (p : Build) (b : Block) : StickyEvent p b (.wrCtrl d) (writeCtrl d p b) := by
  unfold writeCtrl
  split
  · exact .softReset ‹_› rfl
  · exact .unchanged rfl

theorem stickyEvent_writeMtu (d : Word) (p : Build) (b : Block) : StickyEvent p b (.wrMtu d) (writeMtu d p b) := by
  refine stickyEvent_guardedWrite rfl ?_
  split_ifs with enabled outside
  · exact .illegalConfig (.inl ⟨d, rfl, .inl enabled⟩) rfl
  · exact .illegalConfig (.inl ⟨d, rfl, .inr outside⟩) rfl
  · exact .unchanged rfl

theorem stickyEvent_writeDecLen (d : Word) (p : Build) (b : Block) :
    StickyEvent p b (.wrDecLen d) (writeDecLen d p b) := by
  refine stickyEvent_guardedWrite rfl ?_
  split_ifs with above
  · exact .illegalConfig (.inr ⟨d, rfl, above⟩) rfl
  · exact .unchanged rfl

theorem stickyEvent_writeTxData (d : Word) (p : Build) (b : Block) :
    StickyEvent p b (.wrTxData d) (writeTxData d p b) := by
  refine stickyEvent_guardedWrite rfl ?_
  split_ifs with full
  · exact .txOverflow ⟨d, rfl⟩ full rfl
  · exact .unchanged rfl

theorem stickyEvent_writeEvqPop (d : Word) (p : Build) (b : Block) : StickyEvent p b (.wrEvqPop d) (writeEvqPop p b) := by
  unfold writeEvqPop
  split
  · exact .evqUnderflow ⟨d, rfl⟩ ‹_› rfl
  · exact .unchanged rfl

/-- A DEMUX step touches no sticky bit. -/
theorem Block.demux_sticky (p : Build) (b : Block) : (b.demux p).sticky = b.sticky := by
  cases enabled : b.demuxEnabled p with
  | true => rw [Block.demux_enabled enabled, Block.act_frame]
  | false => rw [Block.demux_disabled enabled]

/-! ## Every operation -/

/-- A lifted change of the block. -/
theorem stickyEvent_onBlock {f : Build → Block → Block} {i : Instr} {s t : State} (h : onBlock f s = .next t)
    (hf : StickyEvent s.build s.blk i (f s.build s.blk)) : StickyEvent s.build s.blk i t.blk := by
  rw [onBlock_next h]
  exact hf

/-- A command's own operation. -/
theorem exec_instr_stickyEvent {c : Command} {s t : State} (hwf : c.instr.wf = true) (h : exec c.instr s = .next t) :
    StickyEvent s.build s.blk c.instr t.blk := by
  rw [exec_instr] at h
  exact stickyEvent_onBlock h (stickyEvent_completeWith fun word => .inr (by rw [word, decodeCommand_word hwf]))

/-- The ENGINE's step. -/
theorem exec_engineComplete_stickyEvent {s t : State} (h : exec .engineComplete s = .next t) :
    StickyEvent s.build s.blk .engineComplete t.blk := by
  rw [exec_engineComplete, exec_instr] at h
  exact stickyEvent_onBlock h (stickyEvent_completeWith fun _ => .inl rfl)

/-- Every operation does one of the events to the sticky bits. -/
theorem exec_stickyEvent {i : Instr} {s t : State} (hwf : i.wf = true) (h : exec i s = .next t) :
    StickyEvent s.build s.blk i t.blk := by
  cases i with
  | nop => exact exec_instr_stickyEvent (c := .nop) hwf h
  | cntClear => exact exec_instr_stickyEvent (c := .cntClear) hwf h
  | bufFlush => exact exec_instr_stickyEvent (c := .bufFlush) hwf h
  | evqFlush => exact exec_instr_stickyEvent (c := .evqFlush) hwf h
  | txFlush => exact exec_instr_stickyEvent (c := .txFlush) hwf h
  | crcInit => exact exec_instr_stickyEvent (c := .crcInit) hwf h
  | crcByte imm8 => exact exec_instr_stickyEvent (c := .crcByte imm8) hwf h
  | crcBuf => exact exec_instr_stickyEvent (c := .crcBuf) hwf h
  | frameEncode => exact exec_instr_stickyEvent (c := .frameEncode) hwf h
  | frameDecode => exact exec_instr_stickyEvent (c := .frameDecode) hwf h
  | lineParse => exact exec_instr_stickyEvent (c := .lineParse) hwf h
  | illegal w => exact exec_instr_stickyEvent (c := .illegal w) hwf h
  | wrCmd d => exact stickyEvent_onBlock h (stickyEvent_writeCmd d _ _)
  | wrCtrl d => exact stickyEvent_onBlock h (stickyEvent_writeCtrl d _ _)
  | wrStatus d => exact stickyEvent_onBlock h (.statusWrite d rfl rfl)
  | wrIrqEn d => exact stickyEvent_onBlock h (.unchanged rfl)
  | wrMtu d => exact stickyEvent_onBlock h (stickyEvent_writeMtu d _ _)
  | wrTxRunId d => exact stickyEvent_onBlock h (stickyEvent_guardedUpdate rfl fun _ => rfl)
  | wrTxSeq d => exact stickyEvent_onBlock h (stickyEvent_guardedUpdate rfl fun _ => rfl)
  | wrTxTotal d => exact stickyEvent_onBlock h (stickyEvent_guardedUpdate rfl fun _ => rfl)
  | wrTxPlen d => exact stickyEvent_onBlock h (stickyEvent_guardedUpdate rfl fun _ => rfl)
  | wrDecLen d => exact stickyEvent_onBlock h (stickyEvent_writeDecLen d _ _)
  | wrTxData d => exact stickyEvent_onBlock h (stickyEvent_writeTxData d _ _)
  | wrEvqPop d => exact stickyEvent_onBlock h (stickyEvent_writeEvqPop d _ _)
  | wrPay k d => exact stickyEvent_onBlock h (stickyEvent_guardedUpdate rfl fun _ => rfl)
  | wrDec k d => exact stickyEvent_onBlock h (stickyEvent_guardedUpdate rfl fun _ => rfl)
  | wrOther k d => cases h; exact .unchanged rfl
  | rdAny k => cases h; exact .unchanged rfl
  | rxDeliver d => exact stickyEvent_onBlock h (.unchanged (Block.rxDeliver_sticky d _ _))
  | txTake =>
    change execTxTake s = .next t at h
    unfold execTxTake at h
    split at h <;> cases h <;> exact .unchanged rfl
  | engineComplete => exact exec_engineComplete_stickyEvent h
  | demuxStep => exact stickyEvent_onBlock h (.unchanged (Block.demux_sticky _ _))

/-! ## Each bit's events -/

/-- Settles O53: each event changes the bits its rule names and no other. -/
theorem stickyBitsChangeOnlyByRule : Obligations.StickyBitsChangeOnlyByRule := by
  intro i s t hwf h
  cases exec_stickyEvent hwf h with
  | unchanged h => simp +contextual [h]
  | softReset hi h => simp [hi, h]
  | statusWrite d hi h => simp_all [Sticky.clear]
  | completion hi hbusy h => simp_all
  | commandOverrun hbusy hi h => simp_all
  | writeWhileBusy hbusy hi h => simp_all
  | illegalConfig hi h => simp_all
  | txOverflow hi hfull h => simp_all
  | evqUnderflow hi hempty h => simp_all

end Sys2Proof.Machine

end

/-! SUPPORT. Bus accesses (20_memory.md R71-R75): the word an address falls in, the forms and their encodings, what the record
windows and the PAY and DEC windows show and take. -/

section

/- One theorem after the other: each concurrent elaboration reserves a thread's stack of memory. -/
set_option Elab.async false

namespace Sys2Proof.Machine

/-! ## The aligned word of an address (R72) -/

/-- A concatenation as a number. -/
theorem toNat_append_eq_add {m n : Nat} (x : BitVec m) (y : BitVec n) : (x ++ y).toNat = x.toNat * 2 ^ n + y.toNat := by
  rw [BitVec.toNat_append, ← Nat.shiftLeft_add_eq_or_of_lt y.isLt, Nat.shiftLeft_eq]

/-- The word index of an address and two zero bits are its aligned address. -/
theorem and_alignMask (a : Addr) : a &&& 0x3FFFC#18 = wordIndex a ++ 0b00#2 := by
  ext i hi
  rw [BitVec.getElem_and, BitVec.getElem_append]
  unfold wordIndex
  interval_cases i <;> simp

theorem wordIndex_and_alignMask (a : Addr) : wordIndex (a &&& 0x3FFFC#18) = wordIndex a := by
  rw [and_alignMask, wordIndex_append]

/-- The aligned address of a word. -/
theorem ofNat_four_mul (k : BitVec 16) : BitVec.ofNat 18 (4 * k.toNat) = k ++ 0b00#2 := by
  apply BitVec.eq_of_toNat_eq
  rw [toNat_append_eq_add, BitVec.toNat_ofNat, Nat.mod_eq_of_lt (by omega)]
  simp [Nat.mul_comm]

/-- The byte address of an aligned address's word. -/
theorem four_mul_wordIndex {a : Nat} (lt : a < 2 ^ 18) (aligned : a % 4 = 0) :
    4 * (wordIndex (BitVec.ofNat 18 a)).toNat = a := by
  have index : (wordIndex (BitVec.ofNat 18 a)).toNat = a / 4 := by
    simp [wordIndex, BitVec.extractLsb'_toNat, Nat.shiftRight_eq_div_pow]
    omega
  omega

/-! ## Command words and their operations (R101, R102) -/

/-- A word under CRC_BYTE's row is the word of its operand (R103): bit by bit, the mask fixes the bits outside the operand's
byte and the operand copies those inside. -/
theorem crcByte_word_imm8 {w : Word} (h : w &&& 0xFFFF00FF#32 = 0x11#32) : (Command.crcByte (imm8 w)).word = w := by
  apply BitVec.eq_of_getLsbD_eq
  intro i hi
  have bit : (w.getLsbD i && (0xFFFF00FF#32).getLsbD i) = (0x11#32).getLsbD i := by rw [← h, BitVec.getLsbD_and]
  rw [Command.word, BitVec.getLsbD_append, BitVec.getLsbD_append, imm8, BitVec.getLsbD_extractLsb']
  clear h
  interval_cases i <;> simp_all

/-- Every word is the word of a well-formed command. -/
theorem exists_command_word (w : Word) : ∃ c : Command, c.instr.wf = true ∧ c.word = w := by
  cases h : isCommandWord w with
  | false => exact ⟨.illegal w, by simp [Command.instr, Instr.wf, h], rfl⟩
  | true =>
    simp only [isCommandWord, Bool.or_eq_true, List.contains_iff_mem, beq_iff_eq] at h
    rcases h with h | h
    · simp only [List.mem_cons, List.not_mem_nil, or_false] at h
      rcases h with rfl | rfl | rfl | rfl | rfl | rfl | rfl | rfl | rfl | rfl
      exacts [⟨.nop, rfl, rfl⟩, ⟨.cntClear, rfl, rfl⟩, ⟨.bufFlush, rfl, rfl⟩, ⟨.evqFlush, rfl, rfl⟩, ⟨.txFlush, rfl, rfl⟩,
        ⟨.crcInit, rfl, rfl⟩, ⟨.crcBuf, rfl, rfl⟩, ⟨.frameEncode, rfl, rfl⟩, ⟨.frameDecode, rfl, rfl⟩, ⟨.lineParse, rfl, rfl⟩]
    · exact ⟨.crcByte (imm8 w), rfl, crcByte_word_imm8 h⟩

/-- A word decodes to a well-formed command, whose word it is. -/
theorem decodeCommand_spec (w : Word) : (decodeCommand w).instr.wf = true ∧ (decodeCommand w).word = w := by
  obtain ⟨c, hwf, rfl⟩ := exists_command_word w
  rw [decodeCommand_word hwf]
  exact ⟨hwf, rfl⟩

theorem encode_instr (c : Command) : encode c.instr = .command c.word := by
  cases c <;> rfl

/-- The patterns of two rows that one word selects agree wherever both masks look. -/
theorem CommandRow.selects_agree {r r' : CommandRow} {w : Word} (h : r.selects w = true) (h' : r'.selects w = true) :
    r.pattern &&& r'.mask = r'.pattern &&& r.mask := by
  have hw : w &&& r.mask = r.pattern := by simpa [CommandRow.selects] using h
  have hw' : w &&& r'.mask = r'.pattern := by simpa [CommandRow.selects] using h'
  rw [← hw, ← hw', BitVec.and_assoc, BitVec.and_comm r.mask, BitVec.and_assoc]

/-- Rows of R101 whose patterns agree wherever both masks look are one row. -/
theorem commandRows_disjoint : ∀ r ∈ commandRows, ∀ r' ∈ commandRows,
    r.pattern &&& r'.mask = r'.pattern &&& r.mask → r.pattern = r'.pattern ∧ r.mask = r'.mask := by
  decide

/-! ## Bus writes and their operations (R300) -/

theorem regionOf_evt {o : Nat} (h : o < 0x1000) : regionOf (0x1000 + o) = .evt o := by
  rw [regionOf, if_neg (by omega), if_pos (by omega), Nat.add_sub_cancel_left]

theorem regionOf_res {o : Nat} (h : o < 0x1000) : regionOf (0x2000 + o) = .res o := by
  rw [regionOf, if_neg (by omega), if_neg (by omega), if_pos (by omega), Nat.add_sub_cancel_left]

theorem regionOf_pay {o : Nat} (h : o < 0x10000) : regionOf (0x10000 + o) = .pay o := by
  rw [regionOf, if_neg (by omega), if_neg (by omega), if_neg (by omega), if_neg (by omega), if_pos (by omega),
    Nat.add_sub_cancel_left]

theorem regionOf_dec {o : Nat} (h : o < 0x10000) : regionOf (0x20000 + o) = .dec o := by
  rw [regionOf, if_neg (by omega), if_neg (by omega), if_neg (by omega), if_neg (by omega), if_neg (by omega),
    if_pos (by omega), Nat.add_sub_cancel_left]

/-- The byte address of the word at index `j` of the 64 KiB window `w`. -/
theorem four_mul_windowIndex (w : BitVec 2) (j : BitVec 14) : 4 * (w ++ j).toNat = 0x10000 * w.toNat + 4 * j.toNat := by
  rw [toNat_append_eq_add]
  omega

theorem decodeWrite_pay (j : BitVec 14) (d : Word) : decodeWrite (0b01#2 ++ j) d = .wrPay j d := by
  have region : regionOf (4 * (0b01#2 ++ j).toNat) = .pay (4 * j.toNat) := by
    rw [four_mul_windowIndex]
    exact regionOf_pay (by omega)
  simp [decodeWrite, region]

theorem decodeWrite_dec (j : BitVec 14) (d : Word) : decodeWrite (0b10#2 ++ j) d = .wrDec j d := by
  have region : regionOf (4 * (0b10#2 ++ j).toNat) = .dec (4 * j.toNat) := by
    rw [four_mul_windowIndex]
    exact regionOf_dec (by omega)
  simp [decodeWrite, region]

/-- A write at a register with a write rule is that register's own write. -/
theorem decodeWrite_register {k : BitVec 16} {r : Reg} (d : Word) (hk : r.offset = 4 * k.toNat)
    (rule : r.offset ∈ writeRuleOffsets) :
    (decodeWrite k d).wf = true ∧ encode (decodeWrite k d) = .busWrite r.addr d := by
  have page : r.offset < 0x01000 := by cases r <;> decide
  rw [decodeWrite, ← hk, regionOf_reg page]
  cases r <;> simp [writeRuleOffsets, Reg.offset] at rule <;> exact ⟨rfl, rfl⟩

/-- Where a word with a write rule lies: at a register, or in the PAY or DEC window. -/
theorem hasWriteRule_cases {k : BitVec 16} (h : hasWriteRule k = true) :
    (∃ r : Reg, r.offset = 4 * k.toNat ∧ r.offset ∈ writeRuleOffsets) ∨ (∃ j : BitVec 14, k = 0b01#2 ++ j) ∨
      ∃ j : BitVec 14, k = 0b10#2 ++ j := by
  have registers : ∀ a ∈ writeRuleOffsets, (regAt a).isSome = true := by decide
  simp only [hasWriteRule, Bool.or_eq_true, Bool.and_eq_true, List.contains_iff_mem, decide_eq_true_eq] at h
  rcases h with listed | ⟨lo, hi⟩
  · obtain ⟨r, hr⟩ := Option.isSome_iff_exists.mp (registers _ listed)
    have offset := regAt_eq_some hr
    exact .inl ⟨r, offset, offset ▸ listed⟩
  · by_cases pay : 4 * k.toNat < 0x20000
    · refine .inr (.inl ⟨BitVec.ofNat 14 (k.toNat - 0x4000), BitVec.eq_of_toNat_eq ?_⟩)
      rw [toNat_append_eq_add, BitVec.toNat_ofNat]
      simp
      omega
    · refine .inr (.inr ⟨BitVec.ofNat 14 (k.toNat - 0x8000), BitVec.eq_of_toNat_eq ?_⟩)
      rw [toNat_append_eq_add, BitVec.toNat_ofNat]
      simp
      omega

/-- A bus write decodes to a well-formed operation, whose form is the write at the word's aligned address. -/
theorem decodeWrite_spec (k : BitVec 16) (d : Word) :
    (decodeWrite k d).wf = true ∧ encode (decodeWrite k d) = .busWrite (k ++ 0b00#2) d := by
  cases rule : hasWriteRule k with
  | false =>
    rw [decodeWrite_eq_wrOther d rule]
    exact ⟨by simp [Instr.wf, rule], rfl⟩
  | true =>
    rcases hasWriteRule_cases rule with ⟨r, hk, hr⟩ | ⟨j, rfl⟩ | ⟨j, rfl⟩
    · have addr : r.addr = k ++ 0b00#2 := by rw [Reg.addr, hk, ofNat_four_mul]
      rw [← addr]
      exact decodeWrite_register d hk hr
    · rw [decodeWrite_pay]
      exact ⟨rfl, rfl⟩
    · rw [decodeWrite_dec]
      exact ⟨rfl, rfl⟩

/-- Every operation answers a next state (60_exceptions.md R359). -/
theorem exec_exists_next (i : Instr) (s : State) : ∃ t, exec i s = .next t := by
  cases i with
  | txTake =>
    change ∃ t, execTxTake s = .next t
    unfold execTxTake
    split <;> exact ⟨_, rfl⟩
  | engineComplete =>
    rw [exec_engineComplete, exec_instr]
    exact ⟨_, onBlock_eq _ s⟩
  | _ => exact ⟨_, rfl⟩

/-- Settles O3: an access sees only its address's word index, which is its aligned address's too; a bus write's form is found
per target, a command word's by the row it selects; two rows a word selects agree under both masks. -/
theorem accessesActOnTheAlignedWord : Obligations.AccessesActOnTheAlignedWord := by
  refine ⟨fun a d => ⟨?_, ?_, ?_, ?_, fun s => ⟨exec_exists_next _ s, exec_exists_next _ s⟩⟩, fun c => ?_, fun w => ?_,
    fun w r r' hr hr' h h' => commandRows_disjoint r hr r' hr' (CommandRow.selects_agree h h')⟩
  · rw [decode, decode, wordIndex_and_alignMask]
  · rw [decode, decode, wordIndex_and_alignMask]
  · rw [and_alignMask]
    rfl
  · rw [and_alignMask]
    exact (decodeWrite_spec (wordIndex a) d).2
  · cases c with
    | command w => exact (decodeCommand_spec w).1
    | busWrite a d => exact (decodeWrite_spec (wordIndex a) d).1
    | _ => rfl
  · rw [decode, encode_instr, (decodeCommand_spec w).2]

/-! ## The record windows (R75) -/

/-- A read at an aligned address answers the word there. -/
theorem readsAs_of_readWord {p : Build} {b : Block} {a : Nat} {v : Word} (lt : a < 2 ^ 18) (aligned : a % 4 = 0)
    (word : ∀ k : BitVec 16, 4 * k.toNat = a → b.readWord p k = v) : readsAs p b a v := by
  rw [← word (BitVec.ofNat 16 (a / 4)) (by rw [BitVec.toNat_ofNat]; omega)]
  exact readsAs_readWord p b a

theorem readsAs_evt (p : Build) (b : Block) {o : Nat} (lt : o < 0x1000) (aligned : o % 4 = 0) :
    readsAs p b (0x1000 + o) (render p.listMax b.evtHead o) :=
  readsAs_of_readWord (by omega) (by omega) fun k hk => by rw [Block.readWord, hk, regionOf_evt lt]

theorem readsAs_res (p : Build) (b : Block) {o : Nat} (lt : o < 0x1000) (aligned : o % 4 = 0) :
    readsAs p b (0x2000 + o) (render p.listMax b.res o) :=
  readsAs_of_readWord (by omega) (by omega) fun k hk => by rw [Block.readWord, hk, regionOf_res lt]

/-- The NONE record is all zeros. -/
theorem render_none (n o : Nat) : render n .none o = 0 := by
  have slot : ∀ i, Record.none.slots.getD i 0 = 0 := by
    intro i
    rcases i with _ | _ | _ | _ | _ | i <;> rfl
  unfold render
  split_ifs
  · rfl
  · rfl
  · exact slot _
  · rfl
  · rfl
  · rfl

/-- A word of the EVT or RES window has no write rule. -/
theorem hasWriteRule_of_recordWindow {k : BitVec 16} (lo : 0x1000 ≤ 4 * k.toNat) (hi : 4 * k.toNat < 0x3000) :
    hasWriteRule k = false := by
  simp [hasWriteRule, writeRuleOffsets]
  omega

/-- A write at a word of the EVT or RES window changes nothing. -/
theorem exec_busWrite_recordWindow {a : Nat} (lo : 0x1000 ≤ a) (hi : a < 0x3000) (aligned : a % 4 = 0) (d : Word) (s : State) :
    exec (decode (.busWrite (BitVec.ofNat 18 a) d)) s = .next s := by
  have word := four_mul_wordIndex (a := a) (by omega) aligned
  exact exec_busWrite_ignored d s (hasWriteRule_of_recordWindow (by omega) (by omega))

/-- Settles O44: each window's region shows its record, an empty queue the all-zero NONE record, and its words have no write
rule. -/
theorem recordWindowsShowRecords : Obligations.RecordWindowsShowRecords := by
  intro p b o lt aligned
  have evt := readsAs_evt p b lt aligned
  refine ⟨fun r rest queue => ?_, fun empty => ?_, readsAs_res p b lt aligned, fun d s =>
    ⟨exec_busWrite_recordWindow (by omega) (by omega) (by omega) d s,
      exec_busWrite_recordWindow (by omega) (by omega) (by omega) d s⟩⟩
  · rwa [show b.evtHead = r by simp [Block.evtHead, queue]] at evt
  · rwa [show b.evtHead = .none by simp [Block.evtHead, empty], render_none] at evt

/-! ## The PAY and DEC windows (R73, R74, R318) -/

/-- A window write: each of the word's bytes inside the buffer takes its lane, every other byte is as before. -/
theorem windowWrite_read {m : Memory} (hm : m.wf) (base size off : Nat) (d : Word) (x : Nat) :
    (windowWrite m base size off d).read x =
      if base + off ≤ x ∧ x < base + off + 4 ∧ x < base + size then lane d (x - (base + off)) else m.read x := by
  have wf := fun (m : Memory) (hm : m.wf) j => windowWriteLane_wf m hm base size (off + j) (lane d j)
  have wf₁ := wf m hm 0
  have wf₂ := wf _ wf₁ 1
  have wf₃ := wf _ wf₂ 2
  simp only [windowWrite, List.foldl_cons, List.foldl_nil]
  rw [windowWriteLane_read _ wf₃, windowWriteLane_read _ wf₂, windowWriteLane_read _ wf₁, windowWriteLane_read _ hm]
  by_cases inside : base + off ≤ x ∧ x < base + off + 4 ∧ x < base + size
  · obtain ⟨j, hj, rfl⟩ : ∃ j < 4, x = base + off + j := ⟨x - (base + off), by omega, by omega⟩
    have first : off < size := by omega
    have fits : off + j < size := by omega
    rw [if_pos inside, Nat.add_sub_cancel_left]
    interval_cases j <;> simp [Nat.add_assoc, first, fits]
  · rw [if_neg inside, if_neg (by omega), if_neg (by omega), if_neg (by omega), if_neg (by omega)]

/-- The bytes a window write reaches hold the word's lanes. -/
theorem windowWrite_read_lane {m : Memory} (hm : m.wf) {base size off j : Nat} (d : Word) (hj : j < 4)
    (inside : off + j < size) : (windowWrite m base size off d).read (base + off + j) = d.extractLsb' (8 * j) 8 := by
  rw [windowWrite_read hm, if_pos (by omega), Nat.add_sub_cancel_left, lane]

/-- Every byte a window write does not reach is as before. -/
theorem windowWrite_read_other {m : Memory} (hm : m.wf) {base size off x : Nat} (d : Word)
    (other : ∀ j, j < 4 → off + j < size → x ≠ base + off + j) : (windowWrite m base size off d).read x = m.read x := by
  rw [windowWrite_read hm, if_neg]
  intro inside
  exact other (x - (base + off)) (by omega) (by omega) (by omega)

/-- Each lane of the word a window read answers (R74). -/
theorem windowRead_lane (m : Memory) (base size off : Nat) {j : Nat} (hj : j < 4) :
    (windowRead m base size off).extractLsb' (8 * j) 8 = if off + j < size then m.read (base + off + j) else 0 := by
  have byte : (windowRead m base size off).extractLsb' (8 * j) 8 = windowLane m base size (off + j) := by
    unfold windowRead
    interval_cases j
    · exact BitVec.extractLsb'_append_eq_right
    · rw [BitVec.extractLsb'_append_eq_of_le (by decide), BitVec.extractLsb'_append_eq_right]
    · rw [BitVec.extractLsb'_append_eq_of_le (by decide), BitVec.extractLsb'_append_eq_of_le (by decide),
        BitVec.extractLsb'_append_eq_right]
    · rw [BitVec.extractLsb'_append_eq_of_le (by decide), BitVec.extractLsb'_append_eq_of_le (by decide),
        BitVec.extractLsb'_append_eq_left]
  rw [byte, windowLane, Nat.add_assoc]

theorem readsAs_pay (p : Build) (b : Block) (k : BitVec 14) :
    readsAs p b (0x10000 + 4 * k.toNat) (windowRead b.mem payBase p.payBufSize (4 * k.toNat)) :=
  readsAs_of_readWord (by omega) (by omega) fun i hi => by rw [Block.readWord, hi, regionOf_pay (by omega)]

theorem readsAs_dec (p : Build) (b : Block) (k : BitVec 14) :
    readsAs p b (0x20000 + 4 * k.toNat) (windowRead b.mem decBase p.decBufSize (4 * k.toNat)) :=
  readsAs_of_readWord (by omega) (by omega) fun i hi => by rw [Block.readWord, hi, regionOf_dec (by omega)]

theorem exec_wrPay (k : BitVec 14) (d : Word) (s : State) :
    exec (.wrPay k d) s = .next (s.withBlk (writePay k d s.build s.blk)) := rfl

theorem exec_wrDec (k : BitVec 14) (d : Word) (s : State) :
    exec (.wrDec k d) s = .next (s.withBlk (writeDec k d s.build s.blk)) := rfl

/-- Settles O39: both windows are one window operation at their own base and size, behind the guard on writes. -/
theorem windowAccessesTheirLanes : Obligations.WindowAccessesTheirLanes := by
  refine ⟨fun s k d => ⟨fun busy => ⟨?_, ?_⟩, fun free hm => ⟨?_, ?_⟩⟩, fun p b k => ⟨?_, ?_⟩⟩
  · rw [exec_wrPay, writePay, guardedWrite_busy _ _ busy]
  · rw [exec_wrDec, writeDec, guardedWrite_busy _ _ busy]
  · rw [exec_wrPay, writePay, guardedWrite_free _ _ free]
    exact ⟨_, rfl, fun j hj inside => windowWrite_read_lane hm d hj inside, fun a other => windowWrite_read_other hm d other⟩
  · rw [exec_wrDec, writeDec, guardedWrite_free _ _ free]
    exact ⟨_, rfl, fun j hj inside => windowWrite_read_lane hm d hj inside, fun a other => windowWrite_read_other hm d other⟩
  · exact ⟨_, readsAs_pay p b k, fun j hj => windowRead_lane b.mem payBase p.payBufSize (4 * k.toNat) hj⟩
  · exact ⟨_, readsAs_dec p b k, fun j hj => windowRead_lane b.mem decBase p.decBufSize (4 * k.toNat) hj⟩

end Sys2Proof.Machine

end

/-! SUPPORT. Proofs of the statements about encodings: the wire format of a frame (30_encoding.md R105-R107, 42_frame_codec.md R170)
and the layout of a record (30_encoding.md R110-R118). -/

section

/- One theorem after the other: each concurrent elaboration reserves a thread's stack of memory. -/
set_option Elab.async false

namespace Sys2Proof.Machine

/-! ## Little-endian words in a sequence -/

/-- A byte beyond a prefix is the rest's own byte. -/
theorem byteAt_append_length_add (s t : Bytes) (i : Nat) : byteAt (s ++ t) (s.length + i) = byteAt t i := by
  rw [byteAt_append, if_neg (by omega), Nat.add_sub_cancel_left]

/-- The four bytes of `LE32(v)`, joined from the top, are `v`. -/
theorem rdLE32_le32 (v : Word) : rdLE32 (le32 v) 0 = v := by
  show v.extractLsb' 24 8 ++ v.extractLsb' 16 8 ++ v.extractLsb' 8 8 ++ v.extractLsb' 0 8 = v
  rw [BitVec.extractLsb'_append_extractLsb'_eq_extractLsb' (start₁ := 16) (start₂ := 24) rfl,
    BitVec.extractLsb'_append_extractLsb'_eq_extractLsb' (start₁ := 8) (start₂ := 16) rfl,
    BitVec.extractLsb'_append_extractLsb'_eq_extractLsb' (start₁ := 0) (start₂ := 8) rfl]
  exact BitVec.extractLsb'_eq_self

/-- A 32-bit read right after a prefix is a read at the start of the rest. -/
theorem rdLE32_append_length (s t : Bytes) : rdLE32 (s ++ t) s.length = rdLE32 t 0 := by
  have first : byteAt (s ++ t) s.length = byteAt t 0 := byteAt_append_length_add s t 0
  simp only [rdLE32, byteAt_append_length_add, first, Nat.zero_add]

/-! ## The wire format of an encoded frame (R105, R170) -/

theorem frameHead_length (runId seq total : Half) {payload : Bytes} {mtu : Nat} (lo : 14 ≤ mtu)
    (len : payload.length = mtu - 14) : (frameHead runId seq total payload mtu).length = mtu - 4 := by
  simp [frameHead, len]
  omega

theorem encodeFrame_length (runId seq total : Half) {payload : Bytes} {mtu : Nat} (lo : 14 ≤ mtu)
    (len : payload.length = mtu - 14) : (encodeFrame runId seq total payload mtu).length = mtu := by
  rw [encodeFrame, List.length_append, frameHead_length runId seq total lo len, le32_length]
  omega

/-- A frame begins with the magic, whatever its fields. -/
theorem encodeFrame_take_two (runId seq total : Half) (payload : Bytes) (mtu : Nat) :
    (encodeFrame runId seq total payload mtu).take 2 = [0x5A, 0xA5] := by
  show le16 magic = [0x5A, 0xA5]
  decide

/-- The header of a frame is five 16-bit fields, each read back at its offset. -/
theorem encodeFrame_header (runId seq total : Half) (payload : Bytes) (mtu : Nat) :
    rdLE16 (encodeFrame runId seq total payload mtu) 0 = magic ∧
      rdLE16 (encodeFrame runId seq total payload mtu) 2 = runId ∧
      rdLE16 (encodeFrame runId seq total payload mtu) 4 = seq ∧
      rdLE16 (encodeFrame runId seq total payload mtu) 6 = total ∧
      rdLE16 (encodeFrame runId seq total payload mtu) 8 = BitVec.ofNat 16 (mtu - 14) := by
  unfold encodeFrame frameHead
  generalize BitVec.ofNat 16 (mtu - 14) = plen
  exact ⟨rdLE16_le16 magic, rdLE16_le16 runId, rdLE16_le16 seq, rdLE16_le16 total, rdLE16_le16 plen⟩

/-- Behind the ten bytes of the header come the payload and the checksum. -/
theorem encodeFrame_drop_ten (runId seq total : Half) (payload : Bytes) (mtu : Nat) :
    (encodeFrame runId seq total payload mtu).drop 10 = payload ++ le32 (crc32 (frameHead runId seq total payload mtu)) :=
  rfl

/-- All but the last four bytes of a frame are what its checksum covers (R107). -/
theorem encodeFrame_take_head (runId seq total : Half) {payload : Bytes} {mtu : Nat} (lo : 14 ≤ mtu)
    (len : payload.length = mtu - 14) :
    (encodeFrame runId seq total payload mtu).take (mtu - 4) = frameHead runId seq total payload mtu :=
  List.take_left' (frameHead_length runId seq total lo len)

/-- The last four bytes of a frame are its checksum, low byte first (R107). -/
theorem encodeFrame_drop_head (runId seq total : Half) {payload : Bytes} {mtu : Nat} (lo : 14 ≤ mtu)
    (len : payload.length = mtu - 14) :
    (encodeFrame runId seq total payload mtu).drop (mtu - 4) = le32 (crc32 (frameHead runId seq total payload mtu)) :=
  List.drop_left' (frameHead_length runId seq total lo len)

/-- The stored checksum of a frame, read back. -/
theorem rdLE32_encodeFrame (runId seq total : Half) {payload : Bytes} {mtu : Nat} (lo : 14 ≤ mtu)
    (len : payload.length = mtu - 14) :
    rdLE32 (encodeFrame runId seq total payload mtu) (mtu - 4) = crc32 (frameHead runId seq total payload mtu) := by
  rw [encodeFrame, ← frameHead_length runId seq total lo len, rdLE32_append_length, rdLE32_le32]

/-- Settles O14: the header's fields stand at literal offsets; payload and checksum are found by the lengths before them. -/
theorem encodedFrameLayout : Obligations.EncodedFrameLayout := by
  intro runId seq total payload mtu lo hi len
  obtain ⟨hMagic, hRunId, hSeq, hTotal, hPlen⟩ := encodeFrame_header runId seq total payload mtu
  refine ⟨encodeFrame_length runId seq total lo len, encodeFrame_take_two runId seq total payload mtu, hMagic, hRunId, hSeq,
    hTotal, ?_, ?_, ?_, ?_⟩
  · rw [hPlen, BitVec.toNat_ofNat, Nat.mod_eq_of_lt (by omega)]
  · rw [encodeFrame_drop_ten]
    exact List.take_left' len
  · rw [encodeFrame_take_head runId seq total lo len, rdLE32_encodeFrame runId seq total lo len]
  · rw [encodeFrame_take_head runId seq total lo len, encodeFrame_drop_head runId seq total lo len]

/-! ## The words of a record (R110) -/

/-- The words of any record at the aligned offsets: the kind word, RUN_ID, the slots F0 to F4 one by one, the length of the list
and its elements. -/
theorem render_aligned (n : Nat) (r : Record) {o : Nat} (aligned : o % 4 = 0) :
    render n r o =
      if o = 0x00 then r.kindWord else if o = 0x04 then r.runIdWord
      else if o = 0x08 then r.slots.getD 0 0 else if o = 0x0C then r.slots.getD 1 0
      else if o = 0x10 then r.slots.getD 2 0 else if o = 0x14 then r.slots.getD 3 0
      else if o = 0x18 then r.slots.getD 4 0 else if o = 0x1C then BitVec.ofNat 32 r.list.length
      else if 0x40 ≤ o ∧ (o - 0x40) / 4 < n then (r.list[(o - 0x40) / 4]?.getD 0).setWidth 32 else 0 := by
  obtain tail | rfl | rfl | rfl | rfl | rfl | rfl | rfl | rfl :
      0x20 ≤ o ∨ o = 0x00 ∨ o = 0x04 ∨ o = 0x08 ∨ o = 0x0C ∨ o = 0x10 ∨ o = 0x14 ∨ o = 0x18 ∨ o = 0x1C := by omega
  · have inList : (0x40 ≤ o ∧ o < 0x40 + 4 * n) ↔ (0x40 ≤ o ∧ (o - 0x40) / 4 < n) := by omega
    have noSlot : ¬ (0x08 ≤ o ∧ o ≤ 0x18) := by omega
    have noHead : o ≠ 0x00 ∧ o ≠ 0x04 ∧ o ≠ 0x08 ∧ o ≠ 0x0C ∧ o ≠ 0x10 ∧ o ≠ 0x14 ∧ o ≠ 0x18 ∧ o ≠ 0x1C := by omega
    simp only [render, noHead, noSlot, inList, if_false, List.getD_eq_getElem?_getD]
  all_goals rfl

/-- A record without fields or list shows its kind word alone. -/
theorem render_of_kindWord_only (n : Nat) {r : Record} {o : Nat} (aligned : o % 4 = 0) (noRunId : r.runIdWord = 0)
    (noSlots : r.slots = [0, 0, 0, 0, 0]) (noList : r.list = []) : render n r o = if o = 0x00 then r.kindWord else 0 := by
  rw [render_aligned n r aligned, noRunId, noSlots, noList]
  simp

theorem kindWord_frame (f : Frame) : (Record.frame f).kindWord = 1 := by
  show (0#8 ++ 0#8 ++ 0#8 ++ 0#4 ++ 1#4 : BitVec 32) = 1
  decide

theorem kindWord_control (c : Control) : (Record.control c).kindWord = (0#8 ++ c.msg.code ++ 0#8 ++ 0#4 ++ 2#4 : BitVec 32) :=
  rfl

/-- Settles O45: each kind's layout is the words of any record at its own kind word, slots and list. -/
theorem recordsRenderByLayout : Obligations.RecordsRenderByLayout := by
  intro n o _ _ aligned
  refine ⟨render_none n o, fun f => ?_, fun c => ?_, fun e => ?_, fun r => ?_⟩
  · rw [render_aligned n _ aligned, kindWord_frame]
    simp [Record.runIdWord, Record.slots, Record.list]
  · rw [render_aligned n _ aligned, kindWord_control]
    cases c.msg <;> rfl
  · rw [render_of_kindWord_only n aligned rfl rfl rfl]
    cases e <;> rfl
  · rw [render_of_kindWord_only n aligned rfl rfl rfl]
    cases r <;> rfl

end Sys2Proof.Machine

end

/-! SUPPORT. Proofs of the statements about the CRC32 function and the stand-alone engine (41_crc.md R151-R157). -/

section

/- One theorem after the other: each concurrent elaboration reserves a thread's stack of memory. -/
set_option Elab.async false

namespace Sys2Proof.Machine

/-! ## The function (R151, R152) -/

/-- `crc_update` is eight shift steps on the remainder with the byte folded in. -/
theorem crcUpdate_eq_foldl (c : Word) (b : Byte) :
    crcUpdate c b = (List.range 8).foldl (fun c _ => crcShift c) (c ^^^ b.setWidth 32) := rfl

/-- Settles O9: the eight shifts are a fold over eight steps, `crc_run` is the left fold over the bytes. -/
theorem crcFunctionsByTheirDefinition : Obligations.CrcFunctionsByTheirDefinition :=
  ⟨crcUpdate_eq_foldl, crcRun_nil, crcRun_cons, fun _ => rfl, by decide, fun c s t => (crcRun_append c s t).symm⟩

/-! ## Completing a pending command (R303) -/

/-- A pending command's operation: what the command performs, with the three outputs of a completion. -/
theorem exec_instr_pending {c : Command} {s : State} {b : Block} {r : ResultCode} (busy : s.blk.busy = true)
    (word : s.blk.pend = c.word) (performed : performOf c s.build s.blk = some (b, r)) :
    exec c.instr s = .next (s.withBlk (completedWith b (resultWord c.word r))) := by
  rw [exec_instr, onBlock_eq, completeWith_some ((s.blk.pending_iff _).mpr ⟨busy, word⟩) performed]
  rfl

/-- Either operation that completes a command. -/
theorem exec_completes {c : Command} {i : Instr} {s : State} {b : Block} {r : ResultCode} (h : completes c s.blk i)
    (performed : performOf c s.build s.blk = some (b, r)) :
    exec i s = .next (s.withBlk (completedWith b (resultWord c.word r))) := by
  obtain ⟨busy, rfl, rfl | rfl⟩ := h
  · rw [exec_engineComplete]
    exact exec_instr_pending busy (decodeCommand_spec _).2.symm performed
  · exact exec_instr_pending busy (decodeCommand_spec _).2.symm performed

/-! ## The three commands (R153-R155) -/

/-- The result word of any CRC_BYTE: its operand lies outside OPC. -/
theorem resultWord_crcByte (b : Byte) : resultWord (Command.crcByte b).word .ok = 0x00011100 := by
  have opcode : opc (Command.crcByte b).word = 0x11 := BitVec.extractLsb'_append_eq_right
  rw [resultWord, opcode]
  decide

/-- A word with CRC_BYTE's OPC and a bit set above its operand is illegal (R154): no other row has that OPC, and CRC_BYTE's words
have a zero upper half. -/
theorem decodeCommand_of_crcByte_opc {w : Word} (low : w.extractLsb' 0 8 = 0x11#8) (high : w.extractLsb' 16 16 ≠ 0#16) :
    decodeCommand w = .illegal w := by
  have word := (decodeCommand_spec w).2
  cases hc : decodeCommand w with
  | illegal v => rw [← word, hc]; rfl
  | crcByte b =>
    have zero : (Command.crcByte b).word.extractLsb' 16 16 = 0#16 := by
      rw [Command.word, BitVec.append_assoc]
      exact BitVec.extractLsb'_append_eq_left
    rw [← word, hc] at high
    exact absurd zero high
  | _ => rw [← word, hc] at low; exact absurd low (by decide)

/-- Byte `i` of a slice of RAM. -/
theorem Memory.readBytes_getElem? (m : Memory) (a : Nat) {n i : Nat} (h : i < n) :
    (m.readBytes a n)[i]? = some (m.read (a + i)) := by
  simp [Memory.readBytes, List.getElem?_range h]

/-- Settles O8: each command is what it performs, completed; the illegal words, the slice and the examples are facts of their
own. -/
theorem crcCommandsComplete : Obligations.CrcCommandsComplete := by
  refine ⟨fun s busy => ⟨fun word => ?_, fun b word => ?_, fun word => ?_⟩, fun w low high => ?_,
    fun b => ⟨b.mem.readBytes_length _ _, fun i hi => b.mem.readBytes_getElem? _ hi, fun empty => ?_⟩,
    by decide, by decide, by decide, by decide +kernel⟩
  · exact exec_instr_pending (c := .crcInit) busy word rfl
  · rw [← resultWord_crcByte b]
    exact exec_instr_pending (c := .crcByte b) busy word rfl
  · exact exec_instr_pending (c := .crcBuf) busy word rfl
  · rw [decode, decodeCommand_of_crcByte_opc low high]
    rfl
  · rw [Block.decSlice, empty]
    rfl

/-! ## Changes of the block that leave CRC_STATE alone (R157) -/

/-- The block with another CRC_STATE. -/
def Block.withCrc (b : Block) (x : Word) : Block := { b with crcState := x }

@[simp] theorem Block.withCrc_sb (b : Block) (x : Word) : (b.withCrc x).sb = b.sb := rfl
@[simp] theorem Block.withCrc_evq (b : Block) (x : Word) : (b.withCrc x).evq = b.evq := rfl
@[simp] theorem Block.withCrc_mtu (b : Block) (x : Word) : (b.withCrc x).mtu = b.mtu := rfl
@[simp] theorem Block.withCrc_decSlice (b : Block) (x : Word) : (b.withCrc x).decSlice = b.decSlice := rfl
@[simp] theorem Block.withCrc_pending (b : Block) (x w : Word) : (b.withCrc x).pending w = b.pending w := rfl

/-- From the block `b`, `f` neither reads nor writes CRC_STATE: with another CRC_STATE it gives the same block but for that
CRC_STATE. -/
def IgnoresCrc (f : Block → Block) (b : Block) : Prop := ∀ x : Word, f (b.withCrc x) = (f b).withCrc x

/-- A choice by a condition that does not read CRC_STATE. -/
theorem IgnoresCrc.ite {P : Block → Prop} [DecidablePred P] {f g : Block → Block} {b : Block}
    (hP : ∀ x : Word, P (b.withCrc x) ↔ P b) (hf : IgnoresCrc f b) (hg : IgnoresCrc g b) :
    IgnoresCrc (fun b => if P b then f b else g b) b := by
  intro x
  by_cases h : P b
  · simp only [if_pos h, if_pos ((hP x).mpr h)]
    exact hf x
  · simp only [if_neg h, if_neg (mt (hP x).mp h)]
    exact hg x

theorem IgnoresCrc.guardedWrite {f : Block → Block} {b : Block} (hf : IgnoresCrc f b) : IgnoresCrc (guardedWrite f) b :=
  .ite (fun _ => Iff.rfl) (fun _ => rfl) hf

theorem writeCmd_ignoresCrc (d : Word) (p : Build) (b : Block) : IgnoresCrc (writeCmd d p) b :=
  .ite (fun _ => Iff.rfl) (fun _ => rfl) (fun _ => rfl)

theorem writeCtrl_ignoresCrc {d : Word} (noReset : d.getLsbD 31 = false) (p : Build) (b : Block) :
    IgnoresCrc (writeCtrl d p) b := by
  have plain : ∀ b : Block, writeCtrl d p b = { b with demuxEn := d.getLsbD 0 } := fun b => by
    rw [writeCtrl, if_neg (Bool.eq_false_iff.mp noReset)]
  intro x
  rw [plain, plain]
  rfl

theorem writeMtu_ignoresCrc (d : Word) (p : Build) (b : Block) : IgnoresCrc (writeMtu d p) b :=
  .guardedWrite (.ite (fun _ => Iff.rfl) (fun _ => rfl) (.ite (fun _ => Iff.rfl) (fun _ => rfl) fun _ => rfl))

theorem writeDecLen_ignoresCrc (d : Word) (p : Build) (b : Block) : IgnoresCrc (writeDecLen d p) b :=
  .guardedWrite (.ite (fun _ => Iff.rfl) (fun _ => rfl) fun _ => rfl)

theorem writeTxData_ignoresCrc (d : Word) (p : Build) (b : Block) : IgnoresCrc (writeTxData d p) b :=
  .guardedWrite (.ite (fun _ => Iff.rfl) (fun _ => rfl) fun _ => rfl)

theorem writeEvqPop_ignoresCrc (p : Build) (b : Block) : IgnoresCrc (writeEvqPop p) b := by
  intro x
  simp only [writeEvqPop, Block.withCrc_evq]
  cases b.evq <;> rfl

/-- An action of the demultiplexer checks its frame with `crc32`, a function of the bytes alone. -/
theorem Block.act_ignoresCrc (p : Build) (b : Block) (a : Action) : IgnoresCrc (fun b => b.act p a) b := by
  intro x
  cases a with
  | line k =>
    simp only [Block.act, Block.withCrc_sb]
    cases parseLine p.listMax (b.sb.take (k + 1)) <;> rfl
  | _ => rfl

theorem Block.demux_ignoresCrc (p : Build) (b : Block) : IgnoresCrc (Block.demux p) b :=
  .ite (fun _ => Iff.rfl) (b.act_ignoresCrc p b.action) (fun _ => rfl)

/-! ## The CRC commands and the others -/

/-- The three CRC commands. -/
def isCrcCommand : Command → Bool
  | .crcInit | .crcByte _ | .crcBuf => true
  | _ => false

/-- The operation completes a CRC command. -/
def completesCrc (b : Block) (i : Instr) : Prop := ∃ c : Command, isCrcCommand c = true ∧ completes c b i

/-- A CRC command's word decodes to it. -/
theorem decodeCommand_crc_word {c : Command} (isCrc : isCrcCommand c = true) : decodeCommand c.word = c := by
  refine decodeCommand_word ?_
  cases c with
  | illegal w => cases isCrc
  | _ => rfl

theorem completesCrc_iff (b : Block) (i : Instr) :
    completesCrc b i ↔ completes .crcInit b i ∨ (∃ x, completes (.crcByte x) b i) ∨ completes .crcBuf b i := by
  constructor
  · rintro ⟨c, isCrc, h⟩
    cases c with
    | crcInit => exact .inl h
    | crcByte x => exact .inr (.inl ⟨x, h⟩)
    | crcBuf => exact .inr (.inr h)
    | _ => cases isCrc
  · rintro (h | ⟨x, h⟩ | h)
    exacts [⟨_, rfl, h⟩, ⟨_, rfl, h⟩, ⟨_, rfl, h⟩]

/-- A CRC command performs a change of CRC_STATE and nothing else. -/
theorem performOf_crc {c : Command} (isCrc : isCrcCommand c = true) (p : Build) (b : Block) :
    ∃ x, performOf c p b = some (b.withCrc x, .ok) := by
  cases c with
  | crcInit => exact ⟨_, rfl⟩
  | crcByte imm8 => exact ⟨_, rfl⟩
  | crcBuf => exact ⟨_, rfl⟩
  | _ => cases isCrc

/-- FRAME_ENCODE with a TX_PLEN that is not the payload's size (R179). -/
theorem performFrameEncode_wrongSize {p : Build} {b : Block} (size : b.plenOk = false) :
    performFrameEncode p b = some (b, .invalidPayloadSize) := by
  simp [performFrameEncode, size]

/-- FRAME_ENCODE while its frame does not fit (R180). -/
theorem performFrameEncode_held {p : Build} {b : Block} (size : b.plenOk = true) (fits : b.frameFits p = false) :
    performFrameEncode p b = none := by
  simp [performFrameEncode, size, fits]

/-- FRAME_ENCODE with room for its frame (R178). -/
theorem performFrameEncode_fits {p : Build} {b : Block} (size : b.plenOk = true) (fits : b.frameFits p = true) :
    performFrameEncode p b =
      some ({ b with txf := b.txf ++ b.txFrame, encCrc := rdLE32 b.txFrame (b.mtu.toNat - 4) }, .ok) := by
  simp [performFrameEncode, size, fits]

/-- Any other command performs the same with another CRC_STATE, which it keeps. -/
theorem performOf_ignoresCrc {c : Command} (other : isCrcCommand c = false) (p : Build) (b : Block) (x : Word) :
    performOf c p (b.withCrc x) = (performOf c p b).map fun q => (q.1.withCrc x, q.2) := by
  cases c with
  | frameEncode =>
    simp only [performOf]
    cases size : b.plenOk with
    | false => rw [performFrameEncode_wrongSize size, performFrameEncode_wrongSize (b := b.withCrc x) size]; rfl
    | true =>
      cases fits : b.frameFits p with
      | false => rw [performFrameEncode_held size fits, performFrameEncode_held (b := b.withCrc x) size fits]; rfl
      | true => rw [performFrameEncode_fits size fits, performFrameEncode_fits (b := b.withCrc x) size fits]; rfl
  | frameDecode =>
    simp only [performOf, performFrameDecode, Block.withCrc_decSlice, Block.withCrc_mtu]
    cases decodeFrame b.decSlice b.mtu.toNat <;> rfl
  | lineParse =>
    simp only [performOf, performLineParse, Block.withCrc_decSlice]
    cases parseLine p.listMax b.decSlice <;> rfl
  | crcInit => cases other
  | crcByte _ => cases other
  | crcBuf => cases other
  | _ => rfl

/-- The envelope of a command that is not a CRC command, or is not pending. -/
theorem completeWith_ignoresCrc {c : Command} {p : Build} {b : Block} (h : isCrcCommand c = true → b.pending c.word = false) :
    IgnoresCrc (completeWith c.word (performOf c) p) b := by
  intro x
  cases pending : b.pending c.word with
  | false => simp [completeWith, pending]
  | true =>
    have other : isCrcCommand c = false := by
      refine Bool.eq_false_iff.mpr fun isCrc => ?_
      rw [h isCrc] at pending
      cases pending
    simp only [completeWith, Block.withCrc_pending, pending, performOf_ignoresCrc other]
    cases performOf c p b <;> rfl

/-! ## Every operation -/

/-- The machine with another CRC_STATE. -/
def State.withCrc (s : State) (x : Word) : State := s.withBlk (s.blk.withCrc x)

theorem onBlock_withCrc {f : Build → Block → Block} {s t : State} (hf : IgnoresCrc (f s.build) s.blk)
    (h : onBlock f s = .next t) (x : Word) : onBlock f (s.withCrc x) = .next (t.withCrc x) := by
  rw [onBlock_next h]
  exact congrArg (fun b => Host.Outcome.next (s.withBlk b)) (hf x)

/-- A command's own operation, unless it completes a CRC command. -/
theorem exec_instr_withCrc {c : Command} {s t : State} (notCrc : ¬ completesCrc s.blk c.instr) (h : exec c.instr s = .next t)
    (x : Word) : exec c.instr (s.withCrc x) = .next (t.withCrc x) := by
  rw [exec_instr] at h ⊢
  refine onBlock_withCrc (completeWith_ignoresCrc fun isCrc => ?_) h x
  refine Bool.eq_false_iff.mpr fun pending => notCrc ?_
  obtain ⟨busy, word⟩ := (s.blk.pending_iff _).mp pending
  exact ⟨c, isCrc, busy, by rw [word, decodeCommand_crc_word isCrc], .inr rfl⟩

/-- The ENGINE's step, unless it completes a CRC command. -/
theorem exec_engineComplete_withCrc {s t : State} (notCrc : ¬ completesCrc s.blk .engineComplete)
    (h : exec .engineComplete s = .next t) (x : Word) : exec .engineComplete (s.withCrc x) = .next (t.withCrc x) := by
  rw [exec_engineComplete, exec_instr] at h ⊢
  refine onBlock_withCrc (completeWith_ignoresCrc fun isCrc => ?_) h x
  refine Bool.eq_false_iff.mpr fun pending => notCrc ?_
  exact ⟨_, isCrc, ((s.blk.pending_iff _).mp pending).1, rfl, .inl rfl⟩

/-- TXPORT's step with an empty FIFO (R309). -/
theorem exec_txTake_nil {s : State} (empty : s.blk.txf = []) : exec .txTake s = .next s := by
  show execTxTake s = _
  rw [execTxTake, empty]

/-- TXPORT's step takes the head of the FIFO (R309). -/
theorem exec_txTake_cons {s : State} {b : Byte} {rest : Bytes} (head : s.blk.txf = b :: rest) :
    exec .txTake s = .next { s with blk := { s.blk with txf := rest }, wire := s.wire ++ [b] } := by
  show execTxTake s = _
  rw [execTxTake, head]

theorem exec_txTake_withCrc {s t : State} (h : exec .txTake s = .next t) (x : Word) :
    exec .txTake (s.withCrc x) = .next (t.withCrc x) := by
  cases fifo : s.blk.txf with
  | nil =>
    rw [exec_txTake_nil fifo] at h
    cases h
    exact exec_txTake_nil fifo
  | cons b rest =>
    rw [exec_txTake_cons fifo] at h
    cases h
    exact exec_txTake_cons fifo

/-- Every operation but a soft reset, a bus read and the completion of a CRC command does the same whatever CRC_STATE holds. -/
theorem exec_withCrc {i : Instr} {s t : State} (h : exec i s = .next t) (noReset : isSoftReset i = false)
    (noRead : ∀ k, i ≠ .rdAny k) (notCrc : ¬ completesCrc s.blk i) (x : Word) :
    exec i (s.withCrc x) = .next (t.withCrc x) := by
  cases i with
  | nop => exact exec_instr_withCrc (c := .nop) notCrc h x
  | cntClear => exact exec_instr_withCrc (c := .cntClear) notCrc h x
  | bufFlush => exact exec_instr_withCrc (c := .bufFlush) notCrc h x
  | evqFlush => exact exec_instr_withCrc (c := .evqFlush) notCrc h x
  | txFlush => exact exec_instr_withCrc (c := .txFlush) notCrc h x
  | crcInit => exact exec_instr_withCrc (c := .crcInit) notCrc h x
  | crcByte imm8 => exact exec_instr_withCrc (c := .crcByte imm8) notCrc h x
  | crcBuf => exact exec_instr_withCrc (c := .crcBuf) notCrc h x
  | frameEncode => exact exec_instr_withCrc (c := .frameEncode) notCrc h x
  | frameDecode => exact exec_instr_withCrc (c := .frameDecode) notCrc h x
  | lineParse => exact exec_instr_withCrc (c := .lineParse) notCrc h x
  | illegal w => exact exec_instr_withCrc (c := .illegal w) notCrc h x
  | wrCmd d => exact onBlock_withCrc (writeCmd_ignoresCrc d _ _) h x
  | wrCtrl d => exact onBlock_withCrc (writeCtrl_ignoresCrc noReset _ _) h x
  | wrMtu d => exact onBlock_withCrc (writeMtu_ignoresCrc d _ _) h x
  | wrDecLen d => exact onBlock_withCrc (writeDecLen_ignoresCrc d _ _) h x
  | wrTxData d => exact onBlock_withCrc (writeTxData_ignoresCrc d _ _) h x
  | wrEvqPop d => exact onBlock_withCrc (writeEvqPop_ignoresCrc _ _) h x
  | wrStatus d => exact onBlock_withCrc (f := writeStatus d) (fun _ => rfl) h x
  | wrIrqEn d => exact onBlock_withCrc (f := writeIrqEn d) (fun _ => rfl) h x
  | wrTxRunId d => exact onBlock_withCrc (f := writeTxRunId d) (.guardedWrite fun _ => rfl) h x
  | wrTxSeq d => exact onBlock_withCrc (f := writeTxSeq d) (.guardedWrite fun _ => rfl) h x
  | wrTxTotal d => exact onBlock_withCrc (f := writeTxTotal d) (.guardedWrite fun _ => rfl) h x
  | wrTxPlen d => exact onBlock_withCrc (f := writeTxPlen d) (.guardedWrite fun _ => rfl) h x
  | wrPay k d => exact onBlock_withCrc (f := writePay k d) (.guardedWrite fun _ => rfl) h x
  | wrDec k d => exact onBlock_withCrc (f := writeDec k d) (.guardedWrite fun _ => rfl) h x
  | wrOther k d => cases h; rfl
  | rdAny k => exact absurd rfl (noRead k)
  | rxDeliver d => exact onBlock_withCrc (f := Block.rxDeliver d) (fun _ => rfl) h x
  | txTake => exact exec_txTake_withCrc h x
  | engineComplete => exact exec_engineComplete_withCrc notCrc h x
  | demuxStep => exact onBlock_withCrc (Block.demux_ignoresCrc _ _) h x

/-- Only a soft reset and the completion of a CRC command write CRC_STATE: any other operation keeps whatever CRC_STATE it is
run with. -/
theorem exec_crcState {i : Instr} {s t : State} (h : exec i s = .next t) (noReset : isSoftReset i = false)
    (notCrc : ¬ completesCrc s.blk i) : t.blk.crcState = s.blk.crcState := by
  by_cases read : ∃ k, i = .rdAny k
  · obtain ⟨k, rfl⟩ := read
    cases h
    rfl
  · have kept : exec i s = .next (t.withCrc s.blk.crcState) :=
      exec_withCrc h noReset (not_exists.mp read) notCrc s.blk.crcState
    rw [h] at kept
    exact congrArg (fun t => t.blk.crcState) (Host.Outcome.next.inj kept)

/-- The completion of a CRC command writes CRC_STATE and the outputs of every completion, nothing else. -/
theorem exec_completesCrc {i : Instr} {s t : State} (h : exec i s = .next t) (crc : completesCrc s.blk i) :
    t = s.withBlk (completedWith { s.blk with crcState := t.blk.crcState } t.blk.cmdResult) := by
  obtain ⟨c, isCrc, done⟩ := crc
  obtain ⟨x, performed⟩ := performOf_crc isCrc s.build s.blk
  rw [exec_completes done performed] at h
  cases h
  rfl

/-- Settles O55: an operation that does the same under every CRC_STATE and carries it along neither reads nor writes it. -/
theorem crcEngineIsIndependent : Obligations.CrcEngineIsIndependent := by
  refine ⟨fun i s t h changed => ?_, fun i s t x h noReset noRead noInit noByte noBuf => ?_, fun i s t h crc => ?_⟩
  · rw [← completesCrc_iff]
    by_contra other
    obtain ⟨noReset, notCrc⟩ := not_or.mp other
    exact changed (exec_crcState h (Bool.eq_false_iff.mpr noReset) notCrc)
  · refine exec_withCrc h noReset noRead (fun crc => ?_) x
    rcases (completesCrc_iff _ _).mp crc with h | ⟨b, h⟩ | h
    exacts [noInit h, noByte b h, noBuf h]
  · exact exec_completesCrc h ((completesCrc_iff _ _).mpr crc)

end Sys2Proof.Machine

end

/-! SUPPORT. Proofs of the statements about the frame codec: the checks of `decode_frame` (42_frame_codec.md R171-R176) and
FRAME_DECODE (R181). -/

section

/- One theorem after the other: each concurrent elaboration reserves a thread's stack of memory. -/
set_option Elab.async false

namespace Sys2Proof.Machine

/-! ## The checks of `decode_frame` (R171-R176) -/

/-- R172's check, byte by byte: the magic is missing, as it is from a slice too short to hold it. -/
theorem not_magic_prefix_iff (s : Bytes) :
    ¬ [0x5A, 0xA5] <+: s ↔ s.length < 2 ∨ byteAt s 0 ≠ 0x5A ∨ byteAt s 1 ≠ 0xA5 := by
  match s with
  | [] => simp
  | [_] => simp [List.cons_prefix_cons]
  | a :: b :: _ => simp [List.cons_prefix_cons, byteAt, eq_comm, -not_and, not_and_or]

section
variable {s : Bytes} {mtu : Nat}

/-- No magic: BadMagic (R172). -/
theorem decodeFrame_of_not_magic (noMagic : ¬ [0x5A, 0xA5] <+: s) : decodeFrame s mtu = .error .badMagic := by
  rw [decodeFrame, if_pos ((not_magic_prefix_iff s).mp noMagic)]

/-- With the magic, the three checks that follow R172's. -/
theorem decodeFrame_of_magic (magic : [0x5A, 0xA5] <+: s) :
    decodeFrame s mtu =
      if s.length ≠ mtu then .error .badLength
      else if (rdLE16 s 8).toNat ≠ mtu - 14 then .error .badLength
      else if rdLE32 s (mtu - 4) ≠ crc32 (s.take (mtu - 4)) then .error .checksumMismatch
      else .ok (frameOf s mtu) := by
  rw [decodeFrame, if_neg (mt (not_magic_prefix_iff s).mpr (not_not_intro magic))]
  rfl

/-- The slice is not as long as a frame: BadLength (R173). -/
theorem decodeFrame_of_length_ne (magic : [0x5A, 0xA5] <+: s) (len : s.length ≠ mtu) :
    decodeFrame s mtu = .error .badLength := by
  rw [decodeFrame_of_magic magic, if_pos len]

/-- The declared payload size is not the frame's: BadLength, whatever the checksum (R174). -/
theorem decodeFrame_of_payloadLen_ne (magic : [0x5A, 0xA5] <+: s) (len : s.length = mtu)
    (declared : (rdLE16 s 8).toNat ≠ mtu - 14) : decodeFrame s mtu = .error .badLength := by
  rw [decodeFrame_of_magic magic, if_neg (not_not_intro len), if_pos declared]

/-- The stored checksum is not the computed one: ChecksumMismatch (R175). -/
theorem decodeFrame_of_checksum_ne (magic : [0x5A, 0xA5] <+: s) (len : s.length = mtu)
    (declared : (rdLE16 s 8).toNat = mtu - 14) (stored : rdLE32 s (mtu - 4) ≠ crc32 (s.take (mtu - 4))) :
    decodeFrame s mtu = .error .checksumMismatch := by
  rw [decodeFrame_of_magic magic, if_neg (not_not_intro len), if_neg (not_not_intro declared), if_pos stored]

/-- Every check passed: the slice's own header fields and checksum (R176). -/
theorem decodeFrame_of_checks (magic : [0x5A, 0xA5] <+: s) (len : s.length = mtu)
    (declared : (rdLE16 s 8).toNat = mtu - 14) (stored : rdLE32 s (mtu - 4) = crc32 (s.take (mtu - 4))) :
    decodeFrame s mtu = .ok (frameOf s mtu) := by
  rw [decodeFrame_of_magic magic, if_neg (not_not_intro len), if_neg (not_not_intro declared), if_neg (not_not_intro stored)]

end

/-- Settles O13: one lemma per check. -/
theorem decodeFrameChecksInOrder : Obligations.DecodeFrameChecksInOrder := fun _ _ _ =>
  ⟨decodeFrame_of_not_magic, decodeFrame_of_length_ne, decodeFrame_of_payloadLen_ne, decodeFrame_of_checksum_ne,
    decodeFrame_of_checks⟩

/-! ## FRAME_DECODE (R181) -/

@[simp] theorem Block.decSlice_length (b : Block) : b.decSlice.length = b.decLen.toNat :=
  b.mem.readBytes_length _ _

/-- FRAME_DECODE of a valid frame. -/
theorem performFrameDecode_ok (p : Build) {b : Block} {f : Frame} (h : decodeFrame b.decSlice b.mtu.toNat = .ok f) :
    performFrameDecode p b = some ({ b with res := .frame f }, .ok) := by
  rw [performFrameDecode, h]

/-- FRAME_DECODE of a slice that fails a check. -/
theorem performFrameDecode_error (p : Build) {b : Block} {e : DecodeError}
    (h : decodeFrame b.decSlice b.mtu.toNat = .error e) :
    performFrameDecode p b = some ({ b with res := .frameError e }, e.result) := by
  rw [performFrameDecode, h]

/-- FRAME_DECODE that is pending and fails: RES and CMD_RESULT carry the error. -/
theorem exec_frameDecode_error {s : State} {e : DecodeError} (busy : s.blk.busy = true) (word : s.blk.pend = 0x21)
    (h : decodeFrame s.blk.decSlice s.blk.mtu.toNat = .error e) :
    exec .frameDecode s = .next (s.withBlk
      (completedWith { s.blk with res := .frameError e } (resultWord Command.frameDecode.word e.result))) :=
  exec_instr_pending (c := .frameDecode) busy word (performFrameDecode_error s.build h)

/-- Settles O12: what FRAME_DECODE performs on each outcome, completed; the corner cases are the checks of `decode_frame` on
`DEC[0 .. DEC_LEN)`, whose length is DEC_LEN. -/
theorem frameDecodeCompletes : Obligations.FrameDecodeCompletes := by
  refine ⟨fun s busy word => ⟨fun f h => ?_, exec_frameDecode_error busy word, exec_frameDecode_error busy word,
    exec_frameDecode_error busy word⟩, fun b => ⟨fun short => ?_, fun magic len => ?_, fun magic len declared => ?_⟩,
    by decide +kernel⟩
  · exact exec_instr_pending (c := .frameDecode) busy word (performFrameDecode_ok s.build h)
  · refine decodeFrame_of_not_magic fun magic => ?_
    have two : 2 ≤ b.decSlice.length := magic.length_le
    rw [Block.decSlice_length] at two
    omega
  · refine decodeFrame_of_length_ne magic fun same => len (BitVec.eq_of_toNat_eq ?_)
    rwa [Block.decSlice_length] at same
  · refine decodeFrame_of_payloadLen_ne magic ?_ declared
    rw [Block.decSlice_length, len]

end Sys2Proof.Machine

end

/-! SUPPORT. Proofs of the statements about the fields of a control line: the field kinds (43_control_line.md R208-R210, R214), the
message kinds and their required fields (R206, R207). -/

section

/- One theorem after the other: each concurrent elaboration reserves a thread's stack of memory. -/
set_option Elab.async false

namespace Sys2Proof.Machine

/-! ## Number forms (R204) -/

theorem NumTok.intForm_iff (t : NumTok) : t.intForm = true ↔ t.neg = false ∧ t.frac = [] ∧ t.exp = false := by
  simp [NumTok.intForm, and_assoc]

theorem NumTok.intForm_eq_false_iff (t : NumTok) : t.intForm = false ↔ t.neg = true ∨ t.frac ≠ [] ∨ t.exp = true := by
  simp [NumTok.intForm, or_iff_not_imp_left]

theorem NumTok.decimalForm_iff (t : NumTok) : t.decimalForm = true ↔ t.neg = false ∧ t.exp = false := by
  simp [NumTok.decimalForm]

theorem NumTok.decimalForm_eq_false_iff (t : NumTok) : t.decimalForm = false ↔ t.neg = true ∨ t.exp = true := by
  simp [NumTok.decimalForm, or_iff_not_imp_left]

/-! ## U16 and U32 (R208, R209) -/

/-- The check both kinds make on a number in int form. -/
theorem boundedInt_num {t : NumTok} (form : t.intForm = true) (bound : Nat) :
    boundedInt bound (.num t) = if digitsValue t.int ≤ bound then .ok (digitsValue t.int) else .error .fieldRange := by
  simp [boundedInt, form]

/-- Any other value is FIELD_TYPE. -/
theorem boundedInt_of_not_int {v : Json} (h : ∀ t, v = .num t → t.intForm = false) (bound : Nat) :
    boundedInt bound v = .error .fieldType := by
  cases v with
  | num t => simp [boundedInt, h t rfl]
  | _ => rfl

/-! ## LIST16 (R210) -/

/-- A list of numbers in int form passes the first check of LIST16 with their values. -/
theorem intElems_map_num {ts : List NumTok} (h : ∀ t ∈ ts, t.intForm = true) :
    intElems (ts.map .num) = some (ts.map fun t => digitsValue t.int) := by
  induction ts with
  | nil => rfl
  | cons t ts ih =>
    rw [List.forall_mem_cons] at h
    simp [intElems, h.1, ih h.2]

/-- A list with any other element fails it. -/
theorem intElems_eq_none {es : List Json} (h : ∃ e ∈ es, ∀ t, e = .num t → t.intForm = false) : intElems es = none := by
  induction es with
  | nil => simp at h
  | cons e es ih =>
    cases e with
    | num t =>
      rw [List.exists_mem_cons_iff] at h
      obtain here | later := h
      · simp [intElems, here t rfl]
      · simp [intElems, ih later]
    | _ => rfl

/-- A value that is no array of numbers in int form is FIELD_TYPE. -/
theorem kindList16_of_not_ints {v : Json} (h : ∀ es, v = .arr es → ∃ e ∈ es, ∀ t, e = .num t → t.intForm = false)
    (listMax : Nat) : kindList16 listMax v = .error .fieldType := by
  cases v with
  | arr es => rw [kindList16, intElems_eq_none (h es rfl)]
  | _ => rfl

/-- The two checks that follow the elements' forms: the count, then the ranges. -/
theorem kindList16_ints {ts : List NumTok} (h : ∀ t ∈ ts, t.intForm = true) (listMax : Nat) :
    kindList16 listMax (.arr (ts.map .num)) =
      if listMax < ts.length then .error .listOverflow
      else if ∀ t ∈ ts, digitsValue t.int ≤ 65535 then .ok (ts.map fun t => BitVec.ofNat 16 (digitsValue t.int))
      else .error .fieldRange := by
  rw [kindList16, intElems_map_num h]
  simp [Function.comp_def]

/-! ## PCT (R214) -/

/-- The check on a number in decimal form. -/
theorem kindPct_num {t : NumTok} (form : t.decimalForm = true) :
    kindPct (.num t) = if lossCp t ≤ 4294967295 then .ok (BitVec.ofNat 32 (lossCp t)) else .error .fieldRange := by
  simp [kindPct, form]

/-- Any other value is FIELD_TYPE. -/
theorem kindPct_of_not_decimal {v : Json} (h : ∀ t, v = .num t → t.decimalForm = false) : kindPct v = .error .fieldType := by
  cases v with
  | num t => simp [kindPct, h t rfl]
  | _ => rfl

/-- Settles O21: per kind, the value of another form and the check of the right form; the examples by evaluation. -/
theorem fieldKinds : Obligations.FieldKinds := by
  simp only [Obligations.FieldKinds, ← NumTok.intForm_eq_false_iff, ← NumTok.intForm_iff, ← NumTok.decimalForm_eq_false_iff]
  refine ⟨fun v h => ?_, fun t neg frac exp => ?_, fun listMax => ⟨fun v h => kindList16_of_not_ints h listMax, fun ts h => ?_⟩,
    fun v h => kindPct_of_not_decimal h, fun t neg exp => ?_, by decide⟩
  · simp [kindU16, kindU32, boundedInt_of_not_int h, Except.map]
  · have form : t.intForm = true := t.intForm_iff.mpr ⟨neg, frac, exp⟩
    simp only [kindU16, kindU32, boundedInt_num form]
    refine ⟨fun le => ?_, fun gt => ?_, fun le => ?_, fun gt => ?_⟩
    · rw [if_pos le]; rfl
    · rw [if_neg (by omega)]; rfl
    · rw [if_pos le]; rfl
    · rw [if_neg (by omega)]; rfl
  · rw [kindList16_ints h]
    refine ⟨fun many => if_pos many, fun count out => ?_, fun count inRange => ?_⟩
    · rw [if_neg (by omega), if_neg (by simpa using out)]
    · rw [if_neg (by omega), if_pos inRange]
  · rw [kindPct_num (t.decimalForm_iff.mpr ⟨neg, exp⟩)]
    exact ⟨fun le => if_pos le, fun gt => if_neg (Nat.not_le.mpr gt)⟩

/-! ## Required fields (R207, R216) -/

section
variable {α β : Type} {o : Members} {key : List Half} {kind : Json → Except Reason α}

theorem field_of_absent (h : lookup o key = none) : field o key kind = .error .missingField := by
  rw [field, h]

theorem field_of_present {v : Json} (h : lookup o key = some v) : field o key kind = kind v := by
  rw [field, h]

/-- What follows a check runs on the checked value. -/
theorem bind_eq_ok_iff {x : Except Reason α} {f : α → Except Reason β} {b : β} :
    (x >>= f) = .ok b ↔ ∃ a, x = .ok a ∧ f a = .ok b := by
  cases x <;> simp [bind, Except.bind]

/-- A check before others whose first failing one is `rest`'s. -/
theorem bind_eq_error_iff_firstFailure {x : Except Reason α} {f : α → Except Reason β} {rest : List (Except Reason Unit)}
    {r : Reason} (h : ∀ a, f a = .error r ↔ firstFailure rest = some r) :
    (x >>= f) = .error r ↔ firstFailure (x.map (fun _ => ()) :: rest) = some r := by
  cases x with
  | ok a => exact h a
  | error e => simp [bind, Except.bind, Except.map, firstFailure]

/-- No check fails after the last. -/
theorem pure_eq_error_iff_firstFailure {b : β} {r : Reason} :
    (pure b : Except Reason β) = .error r ↔ firstFailure [] = some r := by
  simp [pure, Except.pure, firstFailure]

end

/-- The reason of the fields is that of the first failing one in the table's order: each bind is one entry of the table. -/
theorem parseFields_eq_error_iff (listMax : Nat) (o : Members) (m : Msg) (r : Reason) :
    parseFields listMax m o = .error r ↔ firstFailure (requiredFields listMax o m) = some r := by
  cases m <;> repeat' refine bind_eq_error_iff_firstFailure fun _ => ?_
  all_goals exact pure_eq_error_iff_firstFailure

/-! ## The message kind (R206) -/

/-- The six names differ, so each names its own kind and no other string names one. -/
theorem msgOfName_eq_some_iff {name : List Half} {m : Msg} : msgOfName name = some m ↔ name = m.name := by
  constructor
  · intro h
    have found := List.find?_some h
    exact (eq_of_beq found).symm
  · rintro rfl
    cases m <;> decide

section
variable {o : Members}

theorem msgOf_of_string {name : List Half} (h : lookup o keyType = some (.str name)) :
    msgOf o = (msgOfName name).elim (.error .unknownType) .ok := by
  cases found : msgOfName name <;> simp [msgOf, h, found]

theorem msgOf_of_no_string (h : ∀ name, lookup o keyType ≠ some (.str name)) : msgOf o = .error .noType := by
  rw [msgOf]
  split
  · exact absurd ‹_› (h _)
  all_goals rfl

theorem msgOf_eq_noType_iff : msgOf o = .error .noType ↔ ∀ name, lookup o keyType ≠ some (.str name) := by
  refine ⟨fun noType name present => ?_, msgOf_of_no_string⟩
  rw [msgOf_of_string present] at noType
  cases found : msgOfName name <;> simp [found] at noType

theorem msgOf_eq_ok_iff {name : List Half} (h : lookup o keyType = some (.str name)) {m : Msg} :
    msgOf o = .ok m ↔ name = m.name := by
  rw [msgOf_of_string h, ← msgOfName_eq_some_iff]
  cases msgOfName name <;> simp

theorem msgOf_of_unknown_name {name : List Half} (h : lookup o keyType = some (.str name))
    (unknown : ∀ m : Msg, name ≠ m.name) : msgOf o = .error .unknownType := by
  have noKind : msgOfName name = none :=
    Option.eq_none_iff_forall_ne_some.mpr fun m found => unknown m (msgOfName_eq_some_iff.mp found)
  rw [msgOf_of_string h, noKind]
  rfl

end

/-- Settles O22: the names by evaluation, the rest by the lemmas on `field`, `msgOf` and a sequence of checks. -/
theorem messageRecognition : Obligations.MessageRecognition := by
  refine ⟨by decide +kernel, by decide +kernel, fun α o key kind => ⟨field_of_absent, fun v => field_of_present⟩,
    fun listMax o => ⟨msgOf_eq_noType_iff, fun name h => ⟨fun m => msgOf_eq_ok_iff h, msgOf_of_unknown_name h⟩,
      parseFields_eq_error_iff listMax o, fun m c => ?_⟩⟩
  -- each bind is one existential of the statement
  cases m <;>
    simp [parseFields, parseSync, parseSyncAck, parseBurst, parseReport, parseEnd, parseFinal, bind_eq_ok_iff, pure, Except.pure,
      eq_comm (b := c)]

end Sys2Proof.Machine

end

/-! SUPPORT. Proofs of the statements about whole control lines: the checks of `parse_line` in their order (43_control_line.md
R200, R201, R216) and LINE_PARSE (R218), for which the parser's answer is shown not to depend on its fuel once it gives one. -/

section

/- One theorem after the other: each concurrent elaboration reserves a thread's stack of memory. -/
set_option Elab.async false

namespace Sys2Proof.Machine

/-! ## The line and its alphabet (R200, R201) -/

theorem isLine_iff (l : Bytes) : isLine l = true ↔ ∃ body, l = body ++ [lf] ∧ lf ∉ body := by
  rcases l.eq_nil_or_concat' with rfl | ⟨body, b, rfl⟩
  · simp [isLine]
  · simp [isLine, and_comm]

theorem inAlphabet_iff (b : Byte) : inAlphabet b = true ↔ b = 0x09 ∨ b = 0x0D ∨ (0x20 ≤ b.toNat ∧ b.toNat ≤ 0x7E) := by
  simp [inAlphabet, or_assoc]

/-- LF is outside the alphabet, so a body within it holds none. -/
theorem lf_not_mem_of_inAlphabet {body : Bytes} (alphabet : ∀ b ∈ body, inAlphabet b = true) : lf ∉ body := fun mem =>
  absurd (alphabet lf mem) (by decide)

/-! ## The checks of `parse_line` (R216) -/

section
variable {listMax : Nat} {l body : Bytes}

theorem parseLine_of_not_line (h : ¬ ∃ body, l = body ++ [lf] ∧ lf ∉ body) : parseLine listMax l = .error .noTerminator := by
  rw [← isLine_iff] at h
  simp [parseLine, h]

theorem parseLine_of_outside_alphabet (noLf : lf ∉ body) (outside : ∃ b ∈ body, inAlphabet b = false) :
    parseLine listMax (body ++ [lf]) = .error .illegalByte := by
  simp [parseLine, (isLine_iff _).mpr ⟨body, rfl, noLf⟩, outside]

/-- The checks of a body within the alphabet: its grammar, its kind, its fields. -/
theorem parseLine_of_inAlphabet (alphabet : ∀ b ∈ body, inAlphabet b = true) :
    parseLine listMax (body ++ [lf]) =
      (parseBody body).elim (.error .badSyntax) fun o => msgOf o >>= fun m => parseFields listMax m o := by
  have line : isLine (body ++ [lf]) = true := (isLine_iff _).mpr ⟨body, rfl, lf_not_mem_of_inAlphabet alphabet⟩
  have within : body.all inAlphabet = true := List.all_eq_true.mpr alphabet
  rw [parseLine, line, List.dropLast_concat, within]
  cases parseBody body with
  | none => rfl
  | some o => cases kind : msgOf o <;> simp [kind, bind, Except.bind]

end

/-! ## The reasons each check gives (R118) -/

/-- A reason that a body within the alphabet can have: neither NO_TERMINATOR nor ILLEGAL_BYTE. -/
def Reason.ofText : Reason → Prop
  | .noTerminator | .illegalByte => False
  | .badSyntax | .noType | .unknownType | .missingField | .fieldType | .fieldRange | .listOverflow => True

/-- Every way the check fails has such a reason. -/
def FailsByText {α : Type} (x : Except Reason α) : Prop := ∀ r, x = .error r → r.ofText

section
variable {α β : Type}

@[simp] theorem failsByText_ok (a : α) : FailsByText (.ok a : Except Reason α) := fun _ h => nomatch h

@[simp] theorem failsByText_error (r : Reason) : FailsByText (.error r : Except Reason α) ↔ r.ofText := by
  simp [FailsByText]

theorem FailsByText.map {x : Except Reason α} (h : FailsByText x) (f : α → β) : FailsByText (x.map f) := by
  cases x with
  | ok a => exact failsByText_ok _
  | error r => exact (failsByText_error r).mpr (h r rfl)

theorem FailsByText.bind {x : Except Reason α} {f : α → Except Reason β} (h : FailsByText x) (hf : ∀ a, FailsByText (f a)) :
    FailsByText (x >>= f) := by
  cases x with
  | ok a => exact hf a
  | error r => exact (failsByText_error r).mpr (h r rfl)

theorem boundedInt_failsByText (bound : Nat) (v : Json) : FailsByText (boundedInt bound v) := by
  unfold boundedInt
  repeat' split
  all_goals simp [Reason.ofText]

theorem kindU16_failsByText (v : Json) : FailsByText (kindU16 v) := (boundedInt_failsByText _ v).map _

theorem kindU32_failsByText (v : Json) : FailsByText (kindU32 v) := (boundedInt_failsByText _ v).map _

theorem kindList16_failsByText (listMax : Nat) (v : Json) : FailsByText (kindList16 listMax v) := by
  unfold kindList16
  repeat' split
  all_goals simp [Reason.ofText]

theorem kindPct_failsByText (v : Json) : FailsByText (kindPct v) := by
  unfold kindPct
  repeat' split
  all_goals simp [Reason.ofText]

theorem checkOf_failsByText {kind : Json → Except Reason α} (h : ∀ v, FailsByText (kind v)) (o : Members) (key : List Half) :
    FailsByText (checkOf o key kind) := by
  refine FailsByText.map ?_ _
  cases present : lookup o key with
  | none => simp [field_of_absent present, Reason.ofText]
  | some v => rw [field_of_present present]; exact h v

end

theorem requiredFields_failByText (listMax : Nat) (o : Members) (m : Msg) :
    ∀ check ∈ requiredFields listMax o m, FailsByText check := by
  cases m <;> simp [requiredFields, checkOf_failsByText, kindU16_failsByText, kindU32_failsByText, kindList16_failsByText,
    kindPct_failsByText]

/-- The first failure is one of the checks'. -/
theorem ofText_of_firstFailure {checks : List (Except Reason Unit)} {r : Reason} (h : ∀ check ∈ checks, FailsByText check)
    (first : firstFailure checks = some r) : r.ofText := by
  induction checks with
  | nil => cases first
  | cons check rest ih =>
    rw [List.forall_mem_cons] at h
    cases check with
    | ok _ => exact ih h.2 first
    | error _ => exact h.1 r (congrArg Except.error (Option.some.inj first))

theorem parseFields_failsByText (listMax : Nat) (m : Msg) (o : Members) : FailsByText (parseFields listMax m o) := fun r h =>
  ofText_of_firstFailure (requiredFields_failByText listMax o m) ((parseFields_eq_error_iff listMax o m r).mp h)

theorem msgOf_failsByText (o : Members) : FailsByText (msgOf o) := by
  unfold msgOf
  repeat' split
  all_goals simp [Reason.ofText]

/-- Within the alphabet no line fails by the first two checks. -/
theorem parseLine_failsByText {body : Bytes} (alphabet : ∀ b ∈ body, inAlphabet b = true) (listMax : Nat) :
    FailsByText (parseLine listMax (body ++ [lf])) := by
  rw [parseLine_of_inAlphabet alphabet]
  cases parseBody body with
  | none => simp [Reason.ofText]
  | some o => exact (msgOf_failsByText o).bind fun m => parseFields_failsByText listMax m o

section
variable {listMax : Nat} {l : Bytes}

/-- Every input: no line, a line with a byte outside the alphabet, or a line within it. -/
theorem parseLine_cases (listMax : Nat) (l : Bytes) :
    (parseLine listMax l = .error .noTerminator ∧ ¬ ∃ body, l = body ++ [lf] ∧ lf ∉ body) ∨
      (parseLine listMax l = .error .illegalByte ∧
        ∃ body, l = body ++ [lf] ∧ lf ∉ body ∧ ∃ b ∈ body, inAlphabet b = false) ∨
      ∃ body, l = body ++ [lf] ∧ ∀ b ∈ body, inAlphabet b = true := by
  by_cases line : ∃ body, l = body ++ [lf] ∧ lf ∉ body
  · obtain ⟨body, rfl, noLf⟩ := line
    by_cases alphabet : ∀ b ∈ body, inAlphabet b = true
    · exact .inr (.inr ⟨body, rfl, alphabet⟩)
    · have outside : ∃ b ∈ body, inAlphabet b = false := by simpa using alphabet
      exact .inr (.inl ⟨parseLine_of_outside_alphabet noLf outside, body, rfl, noLf, outside⟩)
  · exact .inl ⟨parseLine_of_not_line line, line⟩

/-- NO_TERMINATOR is the reason exactly of what is no line (R200). -/
theorem parseLine_eq_noTerminator_iff :
    parseLine listMax l = .error .noTerminator ↔ ¬ ∃ body, l = body ++ [lf] ∧ lf ∉ body := by
  refine ⟨fun h => ?_, parseLine_of_not_line⟩
  obtain ⟨-, noLine⟩ | ⟨illegal, -⟩ | ⟨body, rfl, alphabet⟩ := parseLine_cases listMax l
  · exact noLine
  · exact nomatch illegal.symm.trans h
  · exact (parseLine_failsByText alphabet listMax _ h).elim

/-- ILLEGAL_BYTE is the reason exactly of a line with a byte outside the alphabet (R201). -/
theorem parseLine_eq_illegalByte_iff :
    parseLine listMax l = .error .illegalByte ↔ ∃ body, l = body ++ [lf] ∧ lf ∉ body ∧ ∃ b ∈ body, inAlphabet b = false := by
  refine ⟨fun h => ?_, fun ⟨body, line, noLf, outside⟩ => line ▸ parseLine_of_outside_alphabet noLf outside⟩
  obtain ⟨noTerminator, -⟩ | ⟨-, outside⟩ | ⟨body, rfl, alphabet⟩ := parseLine_cases listMax l
  · exact nomatch noTerminator.symm.trans h
  · exact outside
  · exact (parseLine_failsByText alphabet listMax _ h).elim

/-- A line is accepted when its body is within the alphabet, an object of a known kind, and its fields pass. -/
theorem parseLine_eq_ok_iff {c : Control} :
    parseLine listMax l = .ok c ↔
      ∃ body o m, l = body ++ [lf] ∧ (∀ b ∈ body, inAlphabet b = true) ∧ parseBody body = some o ∧ msgOf o = .ok m ∧
        parseFields listMax m o = .ok c := by
  constructor
  · intro accepted
    obtain ⟨failed, -⟩ | ⟨failed, -⟩ | ⟨body, rfl, alphabet⟩ := parseLine_cases listMax l
    · exact nomatch failed.symm.trans accepted
    · exact nomatch failed.symm.trans accepted
    · rw [parseLine_of_inAlphabet alphabet] at accepted
      cases object : parseBody body with
      | none => simp [object] at accepted
      | some o =>
        rw [object] at accepted
        obtain ⟨m, kind, fields⟩ := bind_eq_ok_iff.mp accepted
        exact ⟨body, o, m, rfl, alphabet, object, kind, fields⟩
  · rintro ⟨body, o, m, rfl, alphabet, object, kind, fields⟩
    rw [parseLine_of_inAlphabet alphabet, object]
    exact bind_eq_ok_iff.mpr ⟨m, kind, fields⟩

end

/-- Settles O19: the first two checks by their reasons, the others by the form `parse_line` takes on a body within the alphabet. -/
theorem lineChecksInOrder : Obligations.LineChecksInOrder := by
  intro listMax
  refine ⟨fun l => ⟨parseLine_eq_noTerminator_iff, parseLine_eq_illegalByte_iff.trans ?_⟩, fun body within => ?_⟩
  · simp only [← Bool.not_eq_true, inAlphabet_iff, not_or, ne_eq]
    rfl
  · have parsed := parseLine_of_inAlphabet (listMax := listMax) fun b mem => (inAlphabet_iff b).mpr (within b mem)
    refine ⟨fun noObject => ?_, fun o object => ⟨fun r failed => ?_, fun m kind => ?_⟩⟩
    · exact parsed.trans (by rw [noObject]; rfl)
    · exact parsed.trans (by rw [object, Option.elim_some, failed]; rfl)
    · exact parsed.trans (by rw [object, Option.elim_some, kind]; rfl)

/-! ## The parser's fuel: more of it never changes an answer -/

/-- Wherever `f` answers, `g` gives the same answer. -/
def Extends {α : Type} (f g : Bytes → Option α) : Prop := ∀ s x, f s = some x → g s = some x

section
variable {n m : Nat}

/-- Objects and arrays go to `parseMembers` and `parseElems`; no other value uses the fuel. -/
theorem parseValue_extends (elems : Extends (parseElems n) (parseElems m)) (members : Extends (parseMembers n) (parseMembers m)) :
    Extends (parseValue (n + 1)) (parseValue (m + 1)) := by
  intro s x h
  cases s with
  | nil => exact h
  | cons b s =>
    rw [parseValue] at h ⊢
    split_ifs at h ⊢
    · grind [Extends]
    · grind [Extends]
    all_goals exact h

theorem parseElems_extends (value : Extends (parseValue n) (parseValue m)) (elems : Extends (parseElems n) (parseElems m)) :
    Extends (parseElems (n + 1)) (parseElems (m + 1)) := by
  intro s x h
  rw [parseElems] at h ⊢
  cases found : parseValue n s with
  | none => simp [found] at h
  | some answer =>
    rw [found] at h
    rw [value _ _ found]
    grind [Extends]

theorem parseMembers_extends (value : Extends (parseValue n) (parseValue m)) (members : Extends (parseMembers n) (parseMembers m)) :
    Extends (parseMembers (n + 1)) (parseMembers (m + 1)) := by
  intro s x h
  rw [parseMembers] at h ⊢
  cases key : parseKey s with
  | none => simp [key] at h
  | some start =>
    cases found : parseValue n start.2 with
    | none => simp [key, found] at h
    | some answer =>
      simp only [key, found, value _ _ found] at h ⊢
      grind [Extends]

end

/-- By recursion on the fuel, the three parsers together. -/
theorem parsers_extend {n m : Nat} (le : n ≤ m) :
    Extends (parseValue n) (parseValue m) ∧ Extends (parseElems n) (parseElems m) ∧ Extends (parseMembers n) (parseMembers m) := by
  induction n generalizing m with
  | zero => exact ⟨fun _ _ h => (nomatch h), fun _ _ h => (nomatch h), fun _ _ h => (nomatch h)⟩
  | succ n ih =>
    obtain ⟨m, rfl⟩ := Nat.exists_eq_add_of_lt le
    obtain ⟨value, elems, members⟩ := ih (Nat.le_add_right n m)
    exact ⟨parseValue_extends elems members, parseElems_extends value elems, parseMembers_extends value members⟩

/-! ## Leading whitespace (R218) -/

theorem skipWs_append {ws : Bytes} (h : ∀ b ∈ ws, isWs b = true) (s : Bytes) : skipWs (ws ++ s) = skipWs s := by
  induction ws with
  | nil => rfl
  | cons b ws ih =>
    rw [List.forall_mem_cons] at h
    rw [List.cons_append, skipWs, if_pos h.1, ih h.2]

theorem parseBody_eq_some_iff {body : Bytes} {ms : Members} :
    parseBody body = some ms ↔
      ∃ r, parseValue (2 * body.length + 2) (skipWs body) = some (.obj ms, r) ∧ skipWs r = [] := by
  unfold parseBody
  constructor
  · intro h
    split at h
    · split_ifs at h with rest
      cases h
      exact ⟨_, ‹_›, rest⟩
    · cases h
  · rintro ⟨r, object, rest⟩
    simp [object, rest]

/-- Whitespace before a body changes only the fuel. -/
theorem parseBody_append_of_isWs {ws body : Bytes} {ms : Members} (h : ∀ b ∈ ws, isWs b = true)
    (parsed : parseBody body = some ms) : parseBody (ws ++ body) = some ms := by
  obtain ⟨r, object, rest⟩ := parseBody_eq_some_iff.mp parsed
  have fuel : 2 * body.length + 2 ≤ 2 * (ws ++ body).length + 2 := by simp
  refine parseBody_eq_some_iff.mpr ⟨r, ?_, rest⟩
  rw [skipWs_append h]
  exact (parsers_extend fuel).1 _ _ object

theorem isWs_iff (b : Byte) : isWs b = true ↔ b = 0x20 ∨ b = 0x09 ∨ b = 0x0D := by
  simp [isWs, or_assoc]

theorem inAlphabet_of_isWs {b : Byte} (h : isWs b = true) : inAlphabet b = true := by
  obtain rfl | rfl | rfl := (isWs_iff b).mp h <;> decide

/-- An accepted line stays accepted, with the same message, when whitespace comes before it. -/
theorem parseLine_append_of_isWs {listMax : Nat} {ws l : Bytes} {c : Control} (h : ∀ b ∈ ws, isWs b = true)
    (accepted : parseLine listMax l = .ok c) : parseLine listMax (ws ++ l) = .ok c := by
  obtain ⟨body, o, m, rfl, alphabet, object, kind, fields⟩ := parseLine_eq_ok_iff.mp accepted
  refine parseLine_eq_ok_iff.mpr
    ⟨ws ++ body, o, m, (List.append_assoc ..).symm, ?_, parseBody_append_of_isWs h object, kind, fields⟩
  exact List.forall_mem_append.mpr ⟨fun b mem => inAlphabet_of_isWs (h b mem), alphabet⟩

/-! ## LINE_PARSE (R218) -/

theorem performLineParse_ok {p : Build} {b : Block} {c : Control} (h : parseLine p.listMax b.decSlice = .ok c) :
    performLineParse p b = some ({ b with res := .control c }, .ok) := by
  rw [performLineParse, h]

theorem performLineParse_error {p : Build} {b : Block} {r : Reason} (h : parseLine p.listMax b.decSlice = .error r) :
    performLineParse p b = some ({ b with res := .lineError r }, .malformedControlMessage) := by
  rw [performLineParse, h]

/-- An input whose last byte is not its first LF is no line. -/
theorem not_line_of_lf_before {a b : Bytes} (later : b ≠ []) : ¬ ∃ body, a ++ lf :: b = body ++ [lf] ∧ lf ∉ body := by
  rintro ⟨body, split, noLf⟩
  obtain ⟨b, x, rfl⟩ := b.eq_nil_or_concat'.resolve_left later
  have front : a ++ lf :: b = body := List.append_inj_left' ((List.append_assoc ..).trans split) rfl
  exact noLf (by simp [← front])

/-- Settles O17: what LINE_PARSE performs on each outcome, completed; the corner cases are the checks of `parse_line`. -/
theorem lineParseCompletes : Obligations.LineParseCompletes := by
  refine ⟨fun s busy word => ⟨fun c h => ?_, fun r h => ?_⟩, fun b n empty => ?_, fun n a b later => ?_,
    fun n ws l c white accepted => ?_, fun n => ?_⟩
  · exact exec_instr_pending (c := .lineParse) busy word (performLineParse_ok h)
  · exact exec_instr_pending (c := .lineParse) busy word (performLineParse_error h)
  · have noBytes : b.decSlice = [] := List.eq_nil_of_length_eq_zero (by simp [empty])
    exact parseLine_of_not_line (by simp [noBytes])
  · exact parseLine_of_not_line (not_line_of_lf_before later)
  · exact parseLine_append_of_isWs (fun b mem => (isWs_iff b).mpr (white b mem)) accepted
  · rfl

end Sys2Proof.Machine

end

/-! SUPPORT. Proofs of the statement about `classify`, the action of a front (44_demux.md R255): the byte outside the alphabet
that a line is searched for (R258), and what the frame path, the line path and the noise path each answer. -/

section

/- One theorem after the other: each concurrent elaboration reserves a thread's stack of memory. -/
set_option Elab.async false

namespace Sys2Proof.Machine

/-! ## The first byte outside the alphabet (R258) -/

theorem firstOutside_cons_of_inAlphabet {b : Byte} (h : inAlphabet b = true) (s : Bytes) :
    firstOutside (b :: s) = (firstOutside s).map fun found => (found.1 + 1, found.2) := by
  rw [firstOutside, if_pos h]
  cases firstOutside s <;> rfl

theorem firstOutside_cons_of_outside {b : Byte} (h : inAlphabet b = false) (s : Bytes) :
    firstOutside (b :: s) = some (0, b) := by
  rw [firstOutside, h]
  rfl

theorem firstOutside_eq_none_iff {s : Bytes} : firstOutside s = none ↔ ∀ b ∈ s, inAlphabet b = true := by
  induction s with
  | nil => simp [firstOutside]
  | cons b s ih =>
    cases alphabet : inAlphabet b with
    | true => simp [firstOutside_cons_of_inAlphabet alphabet, alphabet, ih]
    | false => simp [firstOutside_cons_of_outside alphabet, alphabet]

theorem firstOutside_append {body : Bytes} (within : ∀ b ∈ body, inAlphabet b = true) {x : Byte} (outside : inAlphabet x = false)
    (rest : Bytes) : firstOutside (body ++ x :: rest) = some (body.length, x) := by
  induction body with
  | nil => exact firstOutside_cons_of_outside outside rest
  | cons b body ih =>
    obtain ⟨head, tail⟩ := List.forall_mem_cons.mp within
    rw [List.cons_append, firstOutside_cons_of_inAlphabet head, ih tail]
    rfl

theorem firstOutside_eq_some_iff {s : Bytes} {k : Nat} {x : Byte} :
    firstOutside s = some (k, x) ↔
      ∃ body rest, s = body ++ x :: rest ∧ k = body.length ∧ inAlphabet x = false ∧ ∀ b ∈ body, inAlphabet b = true := by
  constructor
  · induction s generalizing k with
    | nil => exact nofun
    | cons b s ih =>
      cases alphabet : inAlphabet b with
      | true =>
        rw [firstOutside_cons_of_inAlphabet alphabet, Option.map_eq_some_iff]
        rintro ⟨⟨j, y⟩, found, ⟨⟩⟩
        obtain ⟨body, rest, rfl, rfl, outside, within⟩ := ih found
        exact ⟨b :: body, rest, rfl, rfl, outside, List.forall_mem_cons.mpr ⟨alphabet, within⟩⟩
      | false =>
        rw [firstOutside_cons_of_outside alphabet]
        rintro ⟨⟩
        exact ⟨[], s, rfl, rfl, alphabet, nofun⟩
  · rintro ⟨body, rest, rfl, rfl, outside, within⟩
    exact firstOutside_append within outside rest

/-! ## The paths of a front (R257, R258, R260) -/

/-- The front byte whose path alone answers an action; WAIT and NOISE have none of their own. -/
def Action.front : Action → Option Byte
  | .wait | .noise => none
  | .frameOk _ | .frameBad _ => some 0x5A
  | .line _ | .dead | .full => some 0x7B

/-- The action of a whole candidate, by what `decode_frame` makes of it. -/
def Action.ofDecode : Except DecodeError Frame → Action
  | .ok f => .frameOk f
  | .error e => .frameBad e

theorem Action.ofDecode_injective : Function.Injective Action.ofDecode
  | .ok _, .ok _, rfl => rfl
  | .error _, .error _, rfl => rfl

theorem Action.ofDecode_front (r : Except DecodeError Frame) : (ofDecode r).front = some 0x5A := by
  cases r <;> rfl

theorem Action.ofDecode_ne_of_front {a : Action} (noFront : a.front = none) (r : Except DecodeError Frame) : a ≠ ofDecode r := by
  rintro rfl
  cases noFront.symm.trans (ofDecode_front r)

section
variable {mtu cap : Nat} {sb rest : Bytes} {a : Action}

theorem classifyFrame_of_no_magic {b : Byte} (noMagic : b ≠ 0xA5) : classifyFrame mtu sb (b :: rest) = .noise := by
  rw [classifyFrame, if_pos noMagic]

theorem classifyFrame_of_magic :
    classifyFrame mtu sb (0xA5 :: rest) =
      if sb.length < mtu then .wait else .ofDecode (decodeFrame (sb.take mtu) mtu) := by
  cases decoded : decodeFrame (sb.take mtu) mtu <;> simp [classifyFrame, decoded, Action.ofDecode]

/-- All the frame path answers: it waits for a second byte, calls the front noise, waits for MTU bytes, or decodes. -/
theorem classifyFrame_cases (mtu : Nat) (sb rest : Bytes) :
    (rest = [] ∧ classifyFrame mtu sb rest = .wait) ∨
    (∃ b s, rest = b :: s ∧ b ≠ 0xA5 ∧ classifyFrame mtu sb rest = .noise) ∨
    (∃ s, rest = 0xA5 :: s ∧ sb.length < mtu ∧ classifyFrame mtu sb rest = .wait) ∨
    ∃ s, rest = 0xA5 :: s ∧ mtu ≤ sb.length ∧ classifyFrame mtu sb rest = .ofDecode (decodeFrame (sb.take mtu) mtu) := by
  cases rest with
  | nil => exact .inl ⟨rfl, rfl⟩
  | cons b s =>
    by_cases magic : b = 0xA5
    · subst magic
      rw [classifyFrame_of_magic]
      split_ifs with short
      · exact .inr (.inr (.inl ⟨s, rfl, short, rfl⟩))
      · exact .inr (.inr (.inr ⟨s, rfl, Nat.not_lt.mp short, rfl⟩))
    · exact .inr (.inl ⟨b, s, rfl, magic, classifyFrame_of_no_magic magic⟩)

theorem classifyLine_of_outside {k : Nat} {x : Byte} (found : firstOutside rest = some (k, x)) :
    classifyLine cap sb rest = if x = lf then .line (k + 1) else .dead := by
  rw [classifyLine, found]

theorem classifyLine_of_none (within : firstOutside rest = none) :
    classifyLine cap sb rest = if sb.length < cap then .wait else .full := by
  rw [classifyLine, within]

theorem classifyLine_eq_line_iff {k : Nat} :
    classifyLine cap sb rest = .line k ↔ ∃ j, firstOutside rest = some (j, lf) ∧ k = j + 1 := by
  cases found : firstOutside rest with
  | none => rw [classifyLine_of_none found]; split_ifs <;> simp
  | some p => rw [classifyLine_of_outside found]; split_ifs <;> grind

theorem classifyLine_eq_dead_iff : classifyLine cap sb rest = .dead ↔ ∃ j x, firstOutside rest = some (j, x) ∧ x ≠ lf := by
  cases found : firstOutside rest with
  | none => rw [classifyLine_of_none found]; split_ifs <;> simp
  | some p => rw [classifyLine_of_outside found]; split_ifs <;> grind

theorem classifyLine_eq_full_iff : classifyLine cap sb rest = .full ↔ firstOutside rest = none ∧ cap ≤ sb.length := by
  cases found : firstOutside rest with
  | none => rw [classifyLine_of_none found]; split_ifs with below <;> simp [below, Nat.not_lt.mp]
  | some p => rw [classifyLine_of_outside found]; split_ifs <;> simp

theorem classifyLine_ne_noise : classifyLine cap sb rest ≠ .noise := by
  cases found : firstOutside rest with
  | none => rw [classifyLine_of_none found]; split_ifs <;> simp
  | some p => rw [classifyLine_of_outside found]; split_ifs <;> simp

theorem classifyFrame_eq_noise_iff : classifyFrame mtu sb rest = .noise ↔ ∃ b s, rest = b :: s ∧ b ≠ 0xA5 := by
  constructor
  · intro h
    obtain ⟨-, k⟩ | ⟨b, s, cut, noMagic, -⟩ | ⟨-, -, -, k⟩ | ⟨-, -, -, k⟩ := classifyFrame_cases mtu sb rest
    · cases h.symm.trans k
    · exact ⟨b, s, cut, noMagic⟩
    · cases h.symm.trans k
    · exact absurd (h.symm.trans k) (Action.ofDecode_ne_of_front rfl _)
  · rintro ⟨b, s, rfl, noMagic⟩
    exact classifyFrame_of_no_magic noMagic

theorem classifyFrame_eq_ofDecode_iff {r : Except DecodeError Frame} :
    classifyFrame mtu sb rest = .ofDecode r ↔
      [0xA5] <+: rest ∧ mtu ≤ sb.length ∧ decodeFrame (sb.take mtu) mtu = r := by
  constructor
  · intro h
    obtain ⟨-, k⟩ | ⟨-, -, -, -, k⟩ | ⟨-, -, -, k⟩ | ⟨s, rfl, whole, k⟩ := classifyFrame_cases mtu sb rest
    · exact absurd (k.symm.trans h) (Action.ofDecode_ne_of_front rfl r)
    · exact absurd (k.symm.trans h) (Action.ofDecode_ne_of_front rfl r)
    · exact absurd (k.symm.trans h) (Action.ofDecode_ne_of_front rfl r)
    · exact ⟨⟨s, rfl⟩, whole, Action.ofDecode_injective (k.symm.trans h)⟩
  · rintro ⟨⟨s, rfl⟩, whole, rfl⟩
    exact classifyFrame_of_magic.trans (if_neg (Nat.not_lt.mpr whole))

/-! ## The path a front takes (R255) -/

theorem classify_of_frameFront : classify mtu cap (0x5A :: rest) = classifyFrame mtu (0x5A :: rest) rest := rfl

theorem classify_of_lineFront : classify mtu cap (0x7B :: rest) = classifyLine cap (0x7B :: rest) rest := rfl

theorem classify_of_otherFront {b : Byte} (notFrame : b ≠ 0x5A) (notLine : b ≠ 0x7B) : classify mtu cap (b :: rest) = .noise := by
  rw [classify, if_neg notFrame, if_neg notLine]

theorem classifyFrame_front {c : Byte} (front : (classifyFrame mtu sb rest).front = some c) : c = 0x5A := by
  obtain ⟨-, k⟩ | ⟨-, -, -, -, k⟩ | ⟨-, -, -, k⟩ | ⟨-, -, -, k⟩ := classifyFrame_cases mtu sb rest
  · cases k ▸ front
  · cases k ▸ front
  · cases k ▸ front
  · rw [k, Action.ofDecode_front] at front
    exact (Option.some.inj front).symm

theorem classifyLine_front {c : Byte} (front : (classifyLine cap sb rest).front = some c) : c = 0x7B := by
  cases found : firstOutside rest with
  | none =>
    rw [classifyLine_of_none found] at front
    split_ifs at front
    · cases front
    · cases front; rfl
  | some p =>
    rw [classifyLine_of_outside found] at front
    split_ifs at front
    · cases front; rfl
    · cases front; rfl

/-- An action with a front byte of its own is answered only where SB begins with that byte. -/
theorem classify_eq_iff_of_front {c : Byte} (front : a.front = some c) :
    classify mtu cap sb = a ↔ ∃ rest, sb = c :: rest ∧ classify mtu cap (c :: rest) = a := by
  constructor
  · rintro rfl
    cases sb with
    | nil => cases front
    | cons b rest =>
      by_cases isFrame : b = 0x5A
      · subst isFrame
        obtain rfl := classifyFrame_front front
        exact ⟨rest, rfl, rfl⟩
      by_cases isLine : b = 0x7B
      · subst isLine
        obtain rfl := classifyLine_front front
        exact ⟨rest, rfl, rfl⟩
      · rw [classify_of_otherFront isFrame isLine] at front
        cases front
  · rintro ⟨rest, rfl, h⟩
    exact h

theorem classify_eq_line_iff {k : Nat} :
    classify mtu cap sb = .line k ↔
      ∃ body rest, sb = 0x7B :: (body ++ lf :: rest) ∧ k = body.length + 1 ∧ ∀ b ∈ body, inAlphabet b = true := by
  rw [classify_eq_iff_of_front rfl]
  simp only [classify_of_lineFront, classifyLine_eq_line_iff, firstOutside_eq_some_iff]
  constructor
  · rintro ⟨_, rfl, _, ⟨body, rest, rfl, rfl, -, within⟩, rfl⟩
    exact ⟨body, rest, rfl, rfl, within⟩
  · rintro ⟨body, rest, rfl, rfl, within⟩
    exact ⟨_, rfl, _, ⟨body, rest, rfl, rfl, rfl, within⟩, rfl⟩

theorem classify_eq_dead_iff :
    classify mtu cap sb = .dead ↔
      ∃ body x rest, sb = 0x7B :: (body ++ x :: rest) ∧ x ≠ lf ∧ inAlphabet x = false ∧ ∀ b ∈ body, inAlphabet b = true := by
  rw [classify_eq_iff_of_front rfl]
  simp only [classify_of_lineFront, classifyLine_eq_dead_iff, firstOutside_eq_some_iff]
  constructor
  · rintro ⟨_, rfl, _, x, ⟨body, rest, rfl, -, outside, within⟩, notLf⟩
    exact ⟨body, x, rest, rfl, notLf, outside, within⟩
  · rintro ⟨body, x, rest, rfl, notLf, outside, within⟩
    exact ⟨_, rfl, _, x, ⟨body, rest, rfl, rfl, outside, within⟩, notLf⟩

theorem classify_eq_full_iff :
    classify mtu cap sb = .full ↔ ∃ body, sb = 0x7B :: body ∧ (∀ b ∈ body, inAlphabet b = true) ∧ cap ≤ sb.length := by
  rw [classify_eq_iff_of_front rfl]
  refine exists_congr fun body => and_congr_right ?_
  rintro rfl
  rw [classify_of_lineFront, classifyLine_eq_full_iff, firstOutside_eq_none_iff]

theorem classify_eq_noise_iff :
    classify mtu cap sb = .noise ↔
      ∃ b rest, sb = b :: rest ∧ b ≠ 0x7B ∧ (b ≠ 0x5A ∨ ∃ c s, rest = c :: s ∧ c ≠ 0xA5) := by
  constructor
  · cases sb with
    | nil => exact nofun
    | cons b rest =>
      intro h
      refine ⟨b, rest, rfl, ?_, or_iff_not_imp_left.mpr fun frame => ?_⟩
      · rintro rfl
        exact classifyLine_ne_noise h
      · obtain rfl := not_not.mp frame
        exact classifyFrame_eq_noise_iff.mp h
  · rintro ⟨b, rest, rfl, notLine, second⟩
    by_cases frame : b = 0x5A
    · subst frame
      exact classifyFrame_eq_noise_iff.mpr (second.resolve_left (not_not.mpr rfl))
    · exact classify_of_otherFront frame notLine

/-- Both verdicts on a candidate: the magic at the front, MTU bytes, and what `decode_frame` makes of them. -/
theorem classify_eq_ofDecode_iff (r : Except DecodeError Frame) :
    classify mtu cap sb = .ofDecode r ↔
      [0x5A, 0xA5] <+: sb ∧ mtu ≤ sb.length ∧ decodeFrame (sb.take mtu) mtu = r := by
  rw [classify_eq_iff_of_front (Action.ofDecode_front r)]
  simp only [classify_of_frameFront, classifyFrame_eq_ofDecode_iff]
  constructor
  · rintro ⟨rest, rfl, second, whole, decoded⟩
    exact ⟨List.cons_prefix_cons.mpr ⟨rfl, second⟩, whole, decoded⟩
  · rintro ⟨⟨rest, rfl⟩, whole, decoded⟩
    exact ⟨_, rfl, ⟨rest, rfl⟩, whole, decoded⟩

end

/-- Settles O28: each action by the bytes its path needs; the two verdicts on a candidate are one fact about `decode_frame`. -/
theorem classifyByFrontByte : Obligations.ClassifyByFrontByte := fun _ _ _ =>
  ⟨fun _ => classify_eq_line_iff, classify_eq_dead_iff, classify_eq_full_iff, classify_eq_noise_iff,
    fun f => classify_eq_ofDecode_iff (.ok f), fun e => classify_eq_ofDecode_iff (.error e)⟩

end Sys2Proof.Machine

end

/-! SUPPORT. Proofs of the statements about the host's writes (45_host_commands.md R300-R319): the write rule an address selects, the
guard on writes, and what each register's write does, case by case. -/

section

/- One theorem after the other: each concurrent elaboration reserves a thread's stack of memory. -/
set_option Elab.async false

namespace Sys2Proof.Machine

/-! ## The write rule of an address (R300) -/

theorem hasWriteRule_of_unlisted {k : BitVec 16} (outside : 4 * k.toNat < 0x10000 ∨ 0x30000 ≤ 4 * k.toNat)
    (unlisted : 4 * k.toNat ∉ writeRuleOffsets) : hasWriteRule k = false := by
  have noWindow : ¬ (0x10000 ≤ 4 * k.toNat ∧ 4 * k.toNat < 0x30000) := by omega
  simpa [hasWriteRule, unlisted] using noWindow

/-- Settles O5: the registers by evaluation of the map, the windows and the ignored words by the word index of their address. -/
theorem busWritesSelectTheirRule : Obligations.BusWritesSelectTheirRule := by
  refine ⟨fun d => ⟨rfl, rfl, rfl, rfl, rfl, rfl, rfl, rfl, rfl, rfl, rfl, rfl⟩, fun k l d => ⟨?_, ?_⟩,
    fun k l d s outside unlisted => ⟨?_, rfl⟩⟩
  · rw [decode, wordIndex_append, decodeWrite_pay]
  · rw [decode, wordIndex_append, decodeWrite_dec]
  · rw [decode, wordIndex_append, decodeWrite_eq_wrOther d (hasWriteRule_of_unlisted outside unlisted)]

/-! ## The guard on writes (R319) -/

/-- An operation that changes the block to `b`. -/
theorem onBlock_of_eq {f : Build → Block → Block} {s : State} {b : Block} (h : f s.build s.blk = b) :
    onBlock f s = .next (s.withBlk b) := by
  rw [onBlock_eq, h]

/-- Each guarded write stands behind the one guard. -/
theorem exec_guardedWrite_busy {i : Instr} {s : State} (guarded : isGuardedWrite i = true) (busy : s.blk.busy = true) :
    exec i s = .next (s.withBlk { s.blk with sticky := { s.blk.sticky with errWrBusy := true } }) := by
  cases i with
  | wrMtu _ | wrTxRunId _ | wrTxSeq _ | wrTxTotal _ | wrTxPlen _ | wrDecLen _ | wrTxData _ | wrPay _ _ | wrDec _ _ =>
    exact onBlock_of_eq (guardedWrite_busy _ _ busy)
  | _ => cases guarded

/-- Settles O40: the operations it names are the guarded writes. -/
theorem guardedWritesRefusedWhileBusy : Obligations.GuardedWritesRefusedWhileBusy := by
  rintro i s busy ⟨d, named⟩
  refine exec_guardedWrite_busy ?_ busy
  rcases named with rfl | rfl | rfl | rfl | rfl | rfl | rfl | ⟨k, rfl⟩ | ⟨k, rfl⟩ <;> rfl

/-! ## CMD, CTRL, STATUS and IRQ_EN (R302, R312-R314) -/

theorem writeCmd_free (d : Word) (p : Build) {b : Block} (free : b.busy = false) :
    writeCmd d p b = { b with pend := d, busy := true } := by
  simp [writeCmd, free]

theorem writeCmd_busy (d : Word) (p : Build) {b : Block} (busy : b.busy = true) :
    writeCmd d p b = { b with sticky := { b.sticky with errCmdOvr := true } } := by
  simp [writeCmd, busy]

/-- Settles O33: the two branches of the CMD write. -/
theorem cmdWriteOffersWord : Obligations.CmdWriteOffersWord := fun s d =>
  ⟨fun free => onBlock_of_eq (writeCmd_free d s.build free), fun busy => onBlock_of_eq (writeCmd_busy d s.build busy)⟩

theorem writeCtrl_softReset {d : Word} (reset : d.getLsbD 31 = true) (p : Build) (b : Block) :
    writeCtrl d p b = b.softReset p := by
  simp only [writeCtrl, reset, if_true]

theorem writeCtrl_demuxEn {d : Word} (noReset : d.getLsbD 31 = false) (p : Build) (b : Block) :
    writeCtrl d p b = { b with demuxEn := d.getLsbD 0 } := by
  rw [writeCtrl, if_neg (Bool.eq_false_iff.mp noReset)]

/-- Settles O34: the two branches of the CTRL write; the soft reset is the power-on block with the RAM kept. -/
theorem ctrlWriteResetsOrEnables : Obligations.CtrlWriteResetsOrEnables := fun s _ =>
  ⟨fun reset => onBlock_of_eq (writeCtrl_softReset reset s.build s.blk),
    fun noReset => onBlock_of_eq (writeCtrl_demuxEn noReset s.build s.blk)⟩

/-- Settles O35: each write is one update of its own field. -/
theorem statusAndIrqEnWrites : Obligations.StatusAndIrqEnWrites := fun s d =>
  ⟨onBlock_eq (writeStatus d) s, onBlock_eq (writeIrqEn d) s⟩

/-! ## MTU (R315) -/

theorem writeMtu_enabled (d : Word) (p : Build) {b : Block} (free : b.busy = false) (enabled : b.demuxEn = true) :
    writeMtu d p b = b.setErrCfg := by
  rw [writeMtu, guardedWrite_free _ _ free, if_pos enabled]

theorem writeMtu_illegal {d : Word} {p : Build} {b : Block} (free : b.busy = false)
    (illegal : (lowHalf d).toNat < 14 ∨ p.mtuMax < (lowHalf d).toNat) : writeMtu d p b = b.setErrCfg := by
  rw [writeMtu, guardedWrite_free _ _ free, if_pos illegal, ite_self]

theorem writeMtu_legal {d : Word} {p : Build} {b : Block} (free : b.busy = false) (disabled : b.demuxEn = false)
    (legal : ¬ ((lowHalf d).toNat < 14 ∨ p.mtuMax < (lowHalf d).toNat)) :
    writeMtu d p b = { b with mtu := lowHalf d }.trimTo ((lowHalf d).toNat * 150) := by
  rw [writeMtu, guardedWrite_free _ _ free, if_neg (Bool.eq_false_iff.mp disabled), if_neg legal]

/-- Settles O36: the guard and the three outcomes of a write that passes it. -/
theorem mtuWriteIsWarl : Obligations.MtuWriteIsWarl := by
  rintro s d _ rfl
  exact ⟨exec_guardedWrite_busy rfl, fun free enabled => onBlock_of_eq (writeMtu_enabled d s.build free enabled),
    fun free illegal => onBlock_of_eq (writeMtu_illegal free illegal),
    fun free disabled low high => onBlock_of_eq (writeMtu_legal free disabled (not_or.mpr ⟨low.not_gt, high.not_gt⟩))⟩

/-! ## The operand registers (R316, R317) -/

theorem writeDecLen_legal {d : Word} {p : Build} {b : Block} (free : b.busy = false)
    (legal : (lowHalf d).toNat ≤ p.decBufSize) : writeDecLen d p b = { b with decLen := lowHalf d } := by
  rw [writeDecLen, guardedWrite_free _ _ free, if_neg legal.not_gt]

theorem writeDecLen_illegal {d : Word} {p : Build} {b : Block} (free : b.busy = false)
    (illegal : p.decBufSize < (lowHalf d).toNat) : writeDecLen d p b = b.setErrCfg := by
  rw [writeDecLen, guardedWrite_free _ _ free, if_pos illegal]

/-- Settles O37: all five are guarded writes; past the guard the TX registers take every value, DEC_LEN those up to
DEC_BUF_SIZE, which is MTU_MAX. -/
theorem operandRegisterWrites : Obligations.OperandRegisterWrites := by
  rintro s d _ rfl
  refine ⟨fun busy i listed => exec_guardedWrite_busy ?_ busy, fun free => ⟨onBlock_of_eq (guardedWrite_free _ _ free),
    onBlock_of_eq (guardedWrite_free _ _ free), onBlock_of_eq (guardedWrite_free _ _ free),
    onBlock_of_eq (guardedWrite_free _ _ free), fun legal => onBlock_of_eq (writeDecLen_legal free legal),
    fun illegal => onBlock_of_eq (writeDecLen_illegal free illegal)⟩⟩
  simp only [List.mem_cons, List.not_mem_nil, or_false] at listed
  rcases listed with rfl | rfl | rfl | rfl | rfl <;> rfl

/-! ## The queues (R306, R311) -/

theorem writeTxData_room (d : Word) {p : Build} {b : Block} (free : b.busy = false) (room : b.txf.length ≠ p.txFifoDepth) :
    writeTxData d p b = { b with txf := b.txf ++ [lowByte d] } := by
  rw [writeTxData, guardedWrite_free _ _ free, if_neg room]

theorem writeTxData_full (d : Word) {p : Build} {b : Block} (free : b.busy = false) (full : b.txf.length = p.txFifoDepth) :
    writeTxData d p b = { b with sticky := { b.sticky with errTxOvf := true } } := by
  rw [writeTxData, guardedWrite_free _ _ free, if_pos full]

theorem writeEvqPop_nil (p : Build) {b : Block} (empty : b.evq = []) :
    writeEvqPop p b = { b with sticky := { b.sticky with errEvqUnf := true } } := by
  simp [writeEvqPop, empty]

theorem writeEvqPop_cons (p : Build) {b : Block} {r : Record} {rest : List Record} (head : b.evq = r :: rest) :
    writeEvqPop p b = { b with evq := rest } := by
  simp [writeEvqPop, head]

/-- Settles O38: the cases of the TX_DATA write behind its guard, and of the EVQ_POP write, which has none. -/
theorem queueWrites : Obligations.QueueWrites := fun s d =>
  ⟨exec_guardedWrite_busy rfl, fun free room => onBlock_of_eq (writeTxData_room d free room),
    fun free full => onBlock_of_eq (writeTxData_full d free full), fun empty => onBlock_of_eq (writeEvqPop_nil s.build empty),
    fun _ _ head => onBlock_of_eq (writeEvqPop_cons s.build head)⟩

end Sys2Proof.Machine

end

/-! SUPPORT. Proofs of the statements about what the ENGINE completes (45_host_commands.md R303-R310, R320-R322): the housekeeping
commands, the illegal words, and which operations write RES, SB and EVQ. -/

section

/- One theorem after the other: each concurrent elaboration reserves a thread's stack of memory. -/
set_option Elab.async false

namespace Sys2Proof.Machine

/-! ## The housekeeping commands and the illegal words (R304-R310, R320) -/

/-- Settles O6: each command is what it performs, completed. -/
theorem housekeepingCommandsComplete : Obligations.HousekeepingCommandsComplete := fun _ busy =>
  ⟨fun word => exec_instr_pending (c := .nop) busy word rfl, fun word => exec_instr_pending (c := .cntClear) busy word rfl,
    fun word => exec_instr_pending (c := .bufFlush) busy word rfl, fun word => exec_instr_pending (c := .evqFlush) busy word rfl,
    fun word => exec_instr_pending (c := .txFlush) busy word rfl⟩

/-- A word that selects no row of R101 is illegal (R102). -/
theorem decodeCommand_of_unselected {w : Word} (h : ∀ r ∈ commandRows, w &&& r.mask ≠ r.pattern) :
    decodeCommand w = .illegal w := by
  have unselected : commandRows.find? (·.selects w) = none :=
    List.find?_eq_none.mpr fun r hr => by simpa [CommandRow.selects] using h r hr
  rw [decodeCommand, unselected]

/-- The result word of an illegal word: VALID, its OPC and CODE 0x06, bit by bit. -/
theorem resultWord_illegalCommand (w : Word) : resultWord w .illegalCommand = 0x00010006 ||| (w &&& 0xFF) <<< 8 := by
  apply BitVec.eq_of_getLsbD_eq
  intro i hi
  rw [resultWord, BitVec.getLsbD_append, BitVec.getLsbD_append, opc, ResultCode.code]
  interval_cases i <;> simp

/-- Settles O7: an illegal word decodes to itself and performs nothing but its code. -/
theorem illegalWordCompletes : Obligations.IllegalWordCompletes := by
  refine ⟨fun s w unselected busy word => ⟨?_, ?_⟩, by decide, by decide⟩
  · rw [decode, decodeCommand_of_unselected unselected]
    rfl
  · rw [← resultWord_illegalCommand]
    exact exec_instr_pending (c := .illegal w) busy word rfl

/-! ## What a completion writes (R321, R322) -/

/-- The commands that write RES. -/
def writesRes : Command → Bool
  | .frameDecode | .lineParse => true
  | _ => false

/-- SB, EVQ and RES each have the commands that write them. -/
theorem performOf_writes {c : Command} {p : Build} {b b' : Block} {r : ResultCode} (h : performOf c p b = some (b', r)) :
    (c ≠ .bufFlush → b'.sb = b.sb) ∧ (c ≠ .evqFlush → b'.evq = b.evq) ∧ (writesRes c = false → b'.res = b.res) := by
  cases c with
  | bufFlush => cases h; exact ⟨absurd rfl, fun _ => rfl, fun _ => rfl⟩
  | evqFlush => cases h; exact ⟨fun _ => rfl, absurd rfl, fun _ => rfl⟩
  | frameEncode =>
    simp only [performOf, performFrameEncode] at h
    split_ifs at h <;> cases h <;> exact ⟨fun _ => rfl, fun _ => rfl, fun _ => rfl⟩
  | frameDecode =>
    simp only [performOf, performFrameDecode] at h
    split at h <;> cases h <;> exact ⟨fun _ => rfl, fun _ => rfl, nofun⟩
  | lineParse =>
    simp only [performOf, performLineParse] at h
    split at h <;> cases h <;> exact ⟨fun _ => rfl, fun _ => rfl, nofun⟩
  | _ => cases h; exact ⟨fun _ => rfl, fun _ => rfl, fun _ => rfl⟩

/-- An operation that completes a command is held and changes nothing, or it completes what the command performs. -/
theorem exec_completes_cases {c : Command} {i : Instr} {s t : State} (done : completes c s.blk i) (h : exec i s = .next t) :
    t = s ∨ ∃ b r, performOf c s.build s.blk = some (b, r) ∧ t = s.withBlk (completedWith b (resultWord c.word r)) := by
  cases performed : performOf c s.build s.blk with
  | some q =>
    rw [exec_completes done performed] at h
    exact .inr ⟨q.1, q.2, rfl, (Host.Outcome.next.inj h).symm⟩
  | none =>
    have held : completeWith c.word (performOf c) s.build s.blk = s.blk := by simp [completeWith, performed]
    obtain ⟨-, rfl, rfl | rfl⟩ := done
    · rw [exec_engineComplete, exec_instr] at h
      exact .inl ((onBlock_next h).trans (congrArg s.withBlk held))
    · rw [exec_instr] at h
      exact .inl ((onBlock_next h).trans (congrArg s.withBlk held))

/-- A DEMUX step changes SB, EVQ and the counters only. -/
theorem Block.demux_frame (p : Build) (b : Block) :
    b.demux p = { b with sb := (b.demux p).sb, evq := (b.demux p).evq, cnt := (b.demux p).cnt } := by
  cases enabled : b.demuxEnabled p with
  | true => rw [Block.demux_enabled enabled]; exact b.act_frame p b.action
  | false => rw [Block.demux_disabled enabled]

/-- Settles O59: a completion touches SB and EVQ as its command does; a DEMUX step has its own frame. -/
theorem engineAndDemuxAreIndependent : Obligations.EngineAndDemuxAreIndependent := by
  refine ⟨fun c i s t done h => ?_, fun s t h => ?_⟩
  · rcases exec_completes_cases done h with rfl | ⟨b, r, performed, rfl⟩
    · exact ⟨fun _ => rfl, fun _ => rfl⟩
    · obtain ⟨sb, evq, -⟩ := performOf_writes performed
      exact ⟨sb, evq⟩
  · rw [onBlock_next (f := Block.demux) h]
    exact congrArg s.withBlk (Block.demux_frame s.build s.blk)

/-! ## RES (R321) -/

/-- The operation completes a command that writes RES. -/
def completesRes (b : Block) (i : Instr) : Prop := ∃ c : Command, writesRes c = true ∧ completes c b i

/-- A completion envelope leaves RES alone unless it completes a command that writes RES. -/
theorem completeWith_res {c : Command} {p : Build} {b : Block} (h : writesRes c = true → b.pending c.word = false) :
    (completeWith c.word (performOf c) p b).res = b.res := by
  rcases completeWith_cases c.word (performOf c) p b with ⟨same, -⟩ | ⟨b', r, pending, performed, done⟩
  · rw [same]
  · have other : writesRes c = false := Bool.eq_false_iff.mpr fun writes => Bool.eq_false_iff.mp (h writes) pending
    obtain ⟨-, -, res⟩ := performOf_writes performed
    rw [done, Block.complete_res, res other]

theorem onBlock_res {f : Build → Block → Block} {s t : State} (h : onBlock f s = .next t)
    (hf : (f s.build s.blk).res = s.blk.res) : t.blk.res = s.blk.res := by
  rw [onBlock_next h]
  exact hf

/-- The word of a command that writes RES decodes to it. -/
theorem decodeCommand_res_word {c : Command} (writes : writesRes c = true) : decodeCommand c.word = c := by
  cases c with
  | frameDecode => rfl
  | lineParse => rfl
  | _ => cases writes

/-- A command's own operation, unless it completes a command that writes RES. -/
theorem completion_res {c : Command} {s t : State} (h : onBlock (completeWith c.word (performOf c)) s = .next t)
    (other : ¬ completesRes s.blk c.instr) : t.blk.res = s.blk.res := by
  refine onBlock_res h (completeWith_res fun writes => Bool.eq_false_iff.mpr fun pending => other ?_)
  obtain ⟨busy, word⟩ := (s.blk.pending_iff _).mp pending
  exact ⟨c, writes, busy, by rw [word, decodeCommand_res_word writes], .inr rfl⟩

/-- The ENGINE's step, unless it completes a command that writes RES. -/
theorem exec_engineComplete_res {s t : State} (h : exec .engineComplete s = .next t)
    (other : ¬ completesRes s.blk .engineComplete) : t.blk.res = s.blk.res := by
  rw [exec_engineComplete, exec_instr] at h
  refine onBlock_res h (completeWith_res fun writes => Bool.eq_false_iff.mpr fun pending => other ?_)
  exact ⟨_, writes, ((s.blk.pending_iff _).mp pending).1, rfl, .inl rfl⟩

theorem guardedWrite_res {f : Block → Block} {b : Block} (h : (f b).res = b.res) : (guardedWrite f b).res = b.res := by
  cases busy : b.busy with
  | true => rw [guardedWrite_busy f b busy]
  | false => rw [guardedWrite_free f b busy, h]

theorem writeCmd_res (d : Word) (p : Build) (b : Block) : (writeCmd d p b).res = b.res := by
  unfold writeCmd
  split <;> rfl

theorem writeMtu_res (d : Word) (p : Build) (b : Block) : (writeMtu d p b).res = b.res :=
  guardedWrite_res (by split_ifs <;> rfl)

theorem writeDecLen_res (d : Word) (p : Build) (b : Block) : (writeDecLen d p b).res = b.res :=
  guardedWrite_res (by split_ifs <;> rfl)

theorem writeTxData_res (d : Word) (p : Build) (b : Block) : (writeTxData d p b).res = b.res :=
  guardedWrite_res (by split_ifs <;> rfl)

theorem writeEvqPop_res (p : Build) (b : Block) : (writeEvqPop p b).res = b.res := by
  unfold writeEvqPop
  split <;> rfl

/-- Every operation but a soft reset and the completion of a command that writes RES leaves RES alone. -/
theorem exec_res {i : Instr} {s t : State} (h : exec i s = .next t) (noReset : isSoftReset i = false)
    (other : ¬ completesRes s.blk i) : t.blk.res = s.blk.res := by
  cases i with
  | nop | cntClear | bufFlush | evqFlush | txFlush | crcInit | crcByte _ | crcBuf | frameEncode | frameDecode | lineParse =>
    exact completion_res h other
  | illegal w => exact completion_res (c := .illegal w) h other
  | wrCmd d => exact onBlock_res h (writeCmd_res d _ _)
  | wrCtrl d => exact onBlock_res h (by rw [writeCtrl_demuxEn noReset])
  | wrMtu d => exact onBlock_res h (writeMtu_res d _ _)
  | wrDecLen d => exact onBlock_res h (writeDecLen_res d _ _)
  | wrTxData d => exact onBlock_res h (writeTxData_res d _ _)
  | wrEvqPop d => exact onBlock_res h (writeEvqPop_res _ _)
  | wrTxRunId _ | wrTxSeq _ | wrTxTotal _ | wrTxPlen _ | wrPay _ _ | wrDec _ _ => exact onBlock_res h (guardedWrite_res rfl)
  | wrStatus _ | wrIrqEn _ => exact onBlock_res h rfl
  | wrOther _ _ | rdAny _ => cases h; rfl
  | rxDeliver d => exact onBlock_res h (Block.rxDeliver_res d _ _)
  | txTake =>
    cases fifo : s.blk.txf with
    | nil => rw [exec_txTake_nil fifo] at h; cases h; rfl
    | cons b rest => rw [exec_txTake_cons fifo] at h; cases h; rfl
  | engineComplete => exact exec_engineComplete_res h other
  | demuxStep => exact onBlock_res h (by rw [Block.demux_frame])

/-- Settles O54: only FRAME_DECODE and LINE_PARSE perform a change of RES, on each outcome of theirs. -/
theorem resWrittenOnlyByDecodeAndParse : Obligations.ResWrittenOnlyByDecodeAndParse := by
  refine fun i s t h => ⟨fun changed => ?_, fun done => ?_, fun done => ?_⟩
  · by_contra! unnamed
    obtain ⟨noReset, noDecode, noParse⟩ := unnamed
    refine changed (exec_res h (Bool.eq_false_iff.mpr noReset) ?_)
    rintro ⟨c, writes, done⟩
    cases c with
    | frameDecode => exact noDecode done
    | lineParse => exact noParse done
    | _ => cases writes
  · cases decoded : decodeFrame s.blk.decSlice s.blk.mtu.toNat with
    | ok f =>
      rw [exec_completes done (performFrameDecode_ok s.build decoded)] at h
      cases h
      exact .inl ⟨f, rfl⟩
    | error e =>
      rw [exec_completes done (performFrameDecode_error s.build decoded)] at h
      cases h
      exact .inr ⟨e, rfl⟩
  · cases parsed : parseLine s.build.listMax s.blk.decSlice with
    | ok c =>
      rw [exec_completes done (performLineParse_ok parsed)] at h
      cases h
      exact .inl ⟨c, rfl⟩
    | error r =>
      rw [exec_completes done (performLineParse_error parsed)] at h
      cases h
      exact .inr ⟨r, rfl⟩

end Sys2Proof.Machine

end

/-! SUPPORT. Proof of the statement about the interrupt line (60_exceptions.md R355): each of its sources is read off STATUS. -/

section

/- One theorem after the other: each concurrent elaboration reserves a thread's stack of memory. -/
set_option Elab.async false

namespace Sys2Proof.Machine

/-- The event source is bit 1 of STATUS (R29, R355). -/
theorem Block.evqNe_eq_status (p : Build) (b : Block) : b.evqNe = (b.status p).getLsbD 1 :=
  (b.status_getLsbD p 1).symm

/-- The done source is bit 8 of STATUS (R29, R355). -/
theorem Block.cmdDone_eq_status (p : Build) (b : Block) : b.sticky.cmdDone = (b.status p).getLsbD 8 :=
  (b.status_getLsbD p 8).symm

/-- The error source is the disjunction of bits 9 to 13 of STATUS (R352, R355). -/
theorem Block.anyErr_eq_status (p : Build) (b : Block) :
    b.sticky.anyErr = ((b.status p).getLsbD 9 || (b.status p).getLsbD 10 || (b.status p).getLsbD 11 ||
      (b.status p).getLsbD 12 || (b.status p).getLsbD 13) := by
  simp only [Block.status_getLsbD]
  rfl

/-- Settles O46: each enable bit gates a source, and each source is read off STATUS. -/
theorem irqIsFunctionOfStatus : Obligations.IrqIsFunctionOfStatus := fun p b => by
  rw [Block.irq, b.evqNe_eq_status p, b.cmdDone_eq_status p, b.anyErr_eq_status p]

end Sys2Proof.Machine

end

/-! SUPPORT. Proof of the statement about power-on reset (10_state.md R60, 70_reset_and_hazards.md R380, R382): in a legal build the
capacities are positive and MTU_MAX fits the MTU register, so the empty queues read as empty and not full. -/

section

/- One theorem after the other: each concurrent elaboration reserves a thread's stack of memory. -/
set_option Elab.async false

namespace Sys2Proof.Machine

/-- MTU_MAX fits the 16-bit MTU register (R6, R60). -/
theorem Block.reset_mtu_toNat {p : Build} (legal : p.Legal) : (Block.reset p).mtu.toNat = p.mtuMax := by
  obtain ⟨⟨-, le⟩, -⟩ := legal
  rw [Block.reset, BitVec.toNat_ofNat, Nat.mod_eq_of_lt (by omega)]

/-- The event queue starts empty and has room for an event. -/
theorem Block.reset_evqFull {p : Build} (legal : p.Legal) : (Block.reset p).evqFull p = false := by
  obtain ⟨-, -, ⟨pos, -⟩, -⟩ := legal
  exact beq_false_of_ne (by simp only [Block.reset, List.length_nil]; omega)

/-- The transmit FIFO starts empty and has room for a frame of MTU_MAX bytes. -/
theorem Block.reset_txFull {p : Build} (legal : p.Legal) : (Block.reset p).txFull p = false := by
  obtain ⟨⟨pos, -⟩, -, -, le, -⟩ := legal
  exact beq_false_of_ne (by simp only [Block.reset, List.length_nil]; omega)

/-- The StreamBuffer starts empty, below its cap of 150 frames. -/
theorem Block.reset_bufFull {p : Build} (legal : p.Legal) : (Block.reset p).bufFull = false := by
  have mtu := Block.reset_mtu_toNat legal
  obtain ⟨⟨pos, -⟩, -⟩ := legal
  refine beq_false_of_ne ?_
  rw [Block.bufCap, mtu]
  simp only [Block.reset, List.length_nil]
  omega

/-- STATUS after power-on reset has TX_EMPTY and DEMUX_IDLE set, and nothing else (R29, R30). -/
theorem Block.reset_status {p : Build} (legal : p.Legal) : (Block.reset p).status p = 0x00000048 := by
  have busy : (Block.reset p).busy = false := rfl
  have evqNe : (Block.reset p).evqNe = false := rfl
  have txEmpty : (Block.reset p).txEmpty = true := rfl
  have demuxIdle : (Block.reset p).demuxIdle p = true := rfl
  have sticky : (Block.reset p).sticky = ⟨false, false, false, false, false, false⟩ := rfl
  rw [Block.status, Block.liveBits, busy, evqNe, Block.reset_evqFull legal, txEmpty, Block.reset_txFull legal,
    Block.reset_bufFull legal, demuxIdle, sticky]
  decide

/-- No interrupt source is enabled after power-on reset (R32, R355). -/
theorem Block.reset_irq (p : Build) : (Block.reset p).irq = false := by
  have irqEn : (Block.reset p).irqEn = 0 := rfl
  simp [Block.irq, irqEn]

/-- Settles O48: the reset block is the power-on column with no byte of RAM written, so every byte reads as its draw (R382). -/
theorem powerOnResetValues : Obligations.PowerOnResetValues := fun p legal =>
  ⟨[], rfl, fun _ => rfl, rfl, Block.reset_mtu_toNat legal, Block.reset_status legal, Block.reset_irq p⟩

end Sys2Proof.Machine

end

/-! SUPPORT. Proofs of the statements about one step and about decoding (20_memory.md R71, R72, 30_encoding.md R100-R102): the
encoding of a well-formed operation decodes to it, form by form. -/

section

/- One theorem after the other: each concurrent elaboration reserves a thread's stack of memory. -/
set_option Elab.async false

namespace Sys2Proof.Machine

/-- A well-formed command's word selects its own row. -/
theorem decode_encode_command {c : Command} (wf : c.instr.wf = true) : decode (encode c.instr) = c.instr := by
  rw [encode_instr, decode, decodeCommand_word wf]

/-- Settles O2: a command by its row, a window word and an ignored word by the word index of their address, a register by its
place in the map; a read, a port step and an agent step have a form each. -/
theorem encodeThenDecodeIsIdentity : Obligations.EncodeThenDecodeIsIdentity := by
  intro i wf
  cases i with
  | nop => exact decode_encode_command (c := .nop) wf
  | cntClear => exact decode_encode_command (c := .cntClear) wf
  | bufFlush => exact decode_encode_command (c := .bufFlush) wf
  | evqFlush => exact decode_encode_command (c := .evqFlush) wf
  | txFlush => exact decode_encode_command (c := .txFlush) wf
  | crcInit => exact decode_encode_command (c := .crcInit) wf
  | crcByte imm8 => exact decode_encode_command (c := .crcByte imm8) wf
  | crcBuf => exact decode_encode_command (c := .crcBuf) wf
  | frameEncode => exact decode_encode_command (c := .frameEncode) wf
  | frameDecode => exact decode_encode_command (c := .frameDecode) wf
  | lineParse => exact decode_encode_command (c := .lineParse) wf
  | illegal w => exact decode_encode_command (c := .illegal w) wf
  | wrPay k d => rw [encode, decode, wordIndex_append, decodeWrite_pay]
  | wrDec k d => rw [encode, decode, wordIndex_append, decodeWrite_dec]
  | wrOther k d =>
    have noRule : hasWriteRule k = false := by simpa [Instr.wf] using wf
    rw [encode, decode, wordIndex_append, decodeWrite_eq_wrOther d noRule]
  | rdAny k => rw [encode, decode, wordIndex_append]
  | _ => rfl

/-- Settles O1: what `fetch` finds at the head of the list is what `step` executes. -/
theorem stepRunsDecodedOperation : Obligations.StepRunsDecodedOperation := by
  refine ⟨fun s c rest head => ?_, fun s empty => ?_⟩
  · rw [step, State.fetch_cons s c rest head]
  · rw [step, State.fetch_nil s empty]

/-- Settles O4: each table by evaluation. -/
theorem sampleWordsDecode : Obligations.SampleWordsDecode :=
  ⟨by decide, by decide, by decide, by decide, by decide, by decide⟩

end Sys2Proof.Machine

end

/-! SUPPORT. Proofs of the statements about what the checksum detects (41_crc.md R158, 42_frame_codec.md R183), about decoding an
encoded frame (R182) and about FRAME_ENCODE (R178-R180). -/

section

/- One theorem after the other: each concurrent elaboration reserves a thread's stack of memory. -/
set_option Elab.async false

namespace Sys2Proof.Machine

/-! ## A change of one byte and the CRC (R158): every step of the CRC is injective -/

/-- The bit that a shift step moves out comes back at the top, where the polynomial has its highest bit. -/
theorem crcShift_getLsbD_top (c : Word) : (crcShift c).getLsbD 31 = c.getLsbD 0 := by
  cases low : c.getLsbD 0 <;> simp [crcShift, low, crcPoly, -BitVec.getLsbD_eq_getElem]

/-- So a shift step loses nothing: its top bit tells the branch, the branch the other bits. -/
theorem crcShift_injective : Function.Injective crcShift := by
  intro c d h
  have low : c.getLsbD 0 = d.getLsbD 0 := by rw [← crcShift_getLsbD_top, h, crcShift_getLsbD_top]
  have high : c >>> 1 = d >>> 1 := by
    unfold crcShift at h
    rw [low] at h
    split at h
    · exact (BitVec.xor_left_inj crcPoly).mp h
    · exact h
  refine BitVec.eq_of_getLsbD_eq fun i _ => ?_
  cases i with
  | zero => exact low
  | succ i => simpa [Nat.add_comm] using congrArg (·.getLsbD i) high

/-- `crc_update` is injective in the remainder with the byte folded in. -/
theorem crcUpdate_eq_iff {c d : Word} {a b : Byte} :
    crcUpdate c a = crcUpdate d b ↔ c ^^^ a.setWidth 32 = d ^^^ b.setWidth 32 := by
  simp only [crcUpdate, crcShift_injective.eq_iff]

theorem crcRun_injective (s : Bytes) : Function.Injective (crcRun · s) := by
  induction s with
  | nil => exact Function.injective_id
  | cons b s ih => exact fun c d h => (BitVec.xor_left_inj _).mp (crcUpdate_eq_iff.mp (ih h))

/-- Settles O10: from equal remainders the two bytes lead to different ones, which the same rest keeps apart. -/
theorem oneChangedByteChangesCrc : Obligations.OneChangedByteChangesCrc := by
  intro s t a b differ same
  rw [crc32, crc32, BitVec.xor_left_inj, crcRun_append, crcRun_append, crcRun_cons, crcRun_cons] at same
  have folded := (BitVec.xor_right_inj _).mp (crcUpdate_eq_iff.mp (crcRun_injective t same))
  exact differ (by simpa using congrArg (BitVec.setWidth 8) folded)

/-! ## A sequence with one byte changed -/

section
variable {s : Bytes} {i k : Nat} {f : Byte → Byte}

theorem byteAt_modify_of_ne (other : i ≠ k) : byteAt (s.modify i f) k = byteAt s k := by
  simp [byteAt, other]

theorem byteAt_modify_self (inside : i < s.length) : byteAt (s.modify i f) i = f (byteAt s i) := by
  simp [byteAt, inside]

/-- The bytes in front of the changed one are as before. -/
theorem take_modify_of_le (outside : k ≤ i) : (s.modify i f).take k = s.take k := by
  rw [List.take_modify, List.modify_eq_self]
  exact (List.length_take_le k s).trans outside

/-- One byte of a sequence changed, its CRC is another. -/
theorem crc32_modify_ne (changes : ∀ b, f b ≠ b) (inside : i < s.length) : crc32 (s.modify i f) ≠ crc32 s := by
  obtain ⟨front, b, rest, split, -, changed⟩ := List.exists_of_modify f inside
  rw [changed, split]
  exact oneChangedByteChangesCrc front rest _ _ (changes b)

end

/-! ## Reads determine their bytes -/

theorem append_eq_append_iff {m n : Nat} {x x' : BitVec m} {y y' : BitVec n} : x ++ y = x' ++ y' ↔ x = x' ∧ y = y' := by
  constructor
  · intro h
    have left := congrArg (BitVec.extractLsb' n m) h
    have right := congrArg (BitVec.extractLsb' 0 n) h
    rw [BitVec.extractLsb'_append_eq_left, BitVec.extractLsb'_append_eq_left] at left
    rw [BitVec.extractLsb'_append_eq_right, BitVec.extractLsb'_append_eq_right] at right
    exact ⟨left, right⟩
  · rintro ⟨rfl, rfl⟩
    rfl

theorem rdLE16_eq_iff {s t : Bytes} {k : Nat} : rdLE16 s k = rdLE16 t k ↔ ∀ j < 2, byteAt s (k + j) = byteAt t (k + j) := by
  rw [rdLE16, rdLE16, append_eq_append_iff, and_comm]
  refine ⟨fun ⟨h₀, h₁⟩ j lt => ?_, fun h => ⟨h 0 (by decide), h 1 (by decide)⟩⟩
  interval_cases j
  exacts [h₀, h₁]

theorem rdLE32_eq_iff {s t : Bytes} {k : Nat} : rdLE32 s k = rdLE32 t k ↔ ∀ j < 4, byteAt s (k + j) = byteAt t (k + j) := by
  rw [rdLE32, rdLE32, append_eq_append_iff, append_eq_append_iff, append_eq_append_iff]
  refine ⟨fun ⟨⟨⟨h₃, h₂⟩, h₁⟩, h₀⟩ j lt => ?_,
    fun h => ⟨⟨⟨h 3 (by decide), h 2 (by decide)⟩, h 1 (by decide)⟩, h 0 (by decide)⟩⟩
  interval_cases j
  exacts [h₀, h₁, h₂, h₃]

/-! ## Decoding an encoded frame (R182) -/

theorem magic_prefix_encodeFrame (runId seq total : Half) (payload : Bytes) (mtu : Nat) :
    [0x5A, 0xA5] <+: encodeFrame runId seq total payload mtu := by
  rw [← encodeFrame_take_two runId seq total payload mtu]
  exact List.take_prefix _ _

/-- Settles O15: an encoded frame passes every check, and its fields are read back where they were put. -/
theorem decodeOfEncodedFrame : Obligations.DecodeOfEncodedFrame := by
  intro runId seq total payload mtu lo hi len
  obtain ⟨-, hRunId, hSeq, hTotal, hPlen⟩ := encodeFrame_header runId seq total payload mtu
  have declared : (rdLE16 (encodeFrame runId seq total payload mtu) 8).toNat = mtu - 14 := by
    rw [hPlen, BitVec.toNat_ofNat, Nat.mod_eq_of_lt (by omega)]
  have stored := rdLE32_encodeFrame runId seq total lo len
  have covered := encodeFrame_take_head runId seq total lo len
  rw [decodeFrame_of_checks (magic_prefix_encodeFrame ..) (encodeFrame_length runId seq total lo len) declared
    (by rw [stored, covered]), frameOf, hRunId, hSeq, hTotal, hPlen, stored]

/-! ## A frame with one byte changed (R183) -/

section
variable {s : Bytes} {mtu i : Nat} {f : Byte → Byte}

/-- A byte of the magic. -/
theorem decodeFrame_modify_magic (changes : ∀ b, f b ≠ b) (magic : [0x5A, 0xA5] <+: s) (inMagic : i < 2) :
    decodeFrame (s.modify i f) mtu = .error .badMagic := by
  obtain ⟨rest, rfl⟩ := magic
  refine decodeFrame_of_not_magic ((not_magic_prefix_iff _).mpr (.inr ?_))
  interval_cases i
  · exact .inl (changes 0x5A)
  · exact .inr (changes 0xA5)

/-- Behind the magic it is as before. -/
theorem magic_prefix_modify (magic : [0x5A, 0xA5] <+: s) (behind : 2 ≤ i) : [0x5A, 0xA5] <+: s.modify i f := by
  rw [List.prefix_iff_eq_take] at magic ⊢
  exact magic.trans (take_modify_of_le behind).symm

/-- A byte of the payload size. -/
theorem decodeFrame_modify_payloadLen (changes : ∀ b, f b ≠ b) (magic : [0x5A, 0xA5] <+: s) (len : s.length = mtu)
    (declared : (rdLE16 s 8).toNat = mtu - 14) (lo : 14 ≤ mtu) (inSize : i = 8 ∨ i = 9) :
    decodeFrame (s.modify i f) mtu = .error .badLength := by
  refine decodeFrame_of_payloadLen_ne (magic_prefix_modify magic (by omega)) (by rwa [List.length_modify]) fun same => ?_
  have kept := rdLE16_eq_iff.mp (BitVec.eq_of_toNat_eq (same.trans declared.symm)) (i - 8) (by omega)
  rw [show 8 + (i - 8) = i by omega, byteAt_modify_self (by omega)] at kept
  exact changes _ kept

/-- Any other byte: of what the checksum covers, or of the stored checksum. -/
theorem decodeFrame_modify_checked (changes : ∀ b, f b ≠ b) (magic : [0x5A, 0xA5] <+: s) (len : s.length = mtu)
    (declared : (rdLE16 s 8).toNat = mtu - 14) (stored : rdLE32 s (mtu - 4) = crc32 (s.take (mtu - 4))) (lo : 14 ≤ mtu)
    (behind : 2 ≤ i) (noSize : ¬ (i = 8 ∨ i = 9)) (inside : i < mtu) :
    decodeFrame (s.modify i f) mtu = .error .checksumMismatch := by
  have sizeKept : rdLE16 (s.modify i f) 8 = rdLE16 s 8 := rdLE16_eq_iff.mpr fun j _ => byteAt_modify_of_ne (by omega)
  refine decodeFrame_of_checksum_ne (magic_prefix_modify magic behind) (by rwa [List.length_modify])
    (sizeKept ▸ declared) ?_
  by_cases covered : i < mtu - 4
  · have storedKept : rdLE32 (s.modify i f) (mtu - 4) = rdLE32 s (mtu - 4) :=
      rdLE32_eq_iff.mpr fun j _ => byteAt_modify_of_ne (by omega)
    rw [storedKept, stored, List.take_modify]
    exact (crc32_modify_ne changes (by rw [List.length_take]; omega)).symm
  · rw [take_modify_of_le (by omega), ← stored]
    intro same
    have kept := rdLE32_eq_iff.mp same (i - (mtu - 4)) (by omega)
    rw [show mtu - 4 + (i - (mtu - 4)) = i by omega, byteAt_modify_self (by omega)] at kept
    exact changes _ kept

end

/-- Flipping a bit changes a byte. -/
theorem xor_bit_ne {j : Nat} (lt : j < 8) (b : Byte) : b ^^^ 1#8 <<< j ≠ b := by
  have bit : 1#8 <<< j ≠ 0 := by interval_cases j <;> decide
  simpa using bit

/-- Settles O16: a flipped bit changes its byte, and the checks find a changed byte by its place. -/
theorem flippedBitOfFrameIsDetected : Obligations.FlippedBitOfFrameIsDetected := by
  intro runId seq total payload mtu i j lo hi len inside bit
  have changes := xor_bit_ne bit
  have magic := magic_prefix_encodeFrame runId seq total payload mtu
  obtain ⟨hLen, -, -, -, -, -, declared, -, stored, -⟩ := encodedFrameLayout runId seq total payload mtu lo hi len
  split_ifs with inMagic inSize
  · exact decodeFrame_modify_magic changes magic inMagic
  · exact decodeFrame_modify_payloadLen changes magic hLen declared lo inSize
  · exact decodeFrame_modify_checked changes magic hLen declared stored lo (Nat.not_lt.mp inMagic) inSize inside

/-! ## FRAME_ENCODE (R178-R180) -/

theorem Block.plenOk_eq_true_iff (b : Block) : b.plenOk = true ↔ b.txPlen.toNat = b.mtu.toNat - 14 := by
  simp [Block.plenOk]

theorem Block.frameFits_eq_true_iff (p : Build) (b : Block) :
    b.frameFits p = true ↔ b.mtu.toNat ≤ p.txFifoDepth - b.txf.length := by
  simp [Block.frameFits]

/-- A command that performs nothing yet is held: its own operation changes nothing. -/
theorem exec_instr_held {c : Command} {s : State} (held : performOf c s.build s.blk = none) : exec c.instr s = .next s := by
  rw [exec_instr]
  exact onBlock_of_eq (b := s.blk) (by simp [completeWith, held])

/-- Settles O11: what FRAME_ENCODE performs in each case, completed or held; the ENGINE's step is the pending command's own. -/
theorem frameEncodeCompletes : Obligations.FrameEncodeCompletes := by
  refine ⟨fun s busy word => ⟨fun size fits => ?_, fun size => ?_, fun size full => ?_⟩,
    fun b => ⟨b.mem.readBytes_length _ _, fun i hi => b.mem.readBytes_getElem? _ hi⟩, by decide +kernel⟩
  · exact exec_instr_pending (c := .frameEncode) busy word
      (performFrameEncode_fits ((Block.plenOk_eq_true_iff _).mpr size) ((Block.frameFits_eq_true_iff _ _).mpr fits))
  · exact exec_instr_pending (c := .frameEncode) busy word
      (performFrameEncode_wrongSize (Bool.eq_false_iff.mpr (mt (Block.plenOk_eq_true_iff _).mp size)))
  · have held : performOf .frameEncode s.build s.blk = none :=
      performFrameEncode_held ((Block.plenOk_eq_true_iff _).mpr size)
        (Bool.eq_false_iff.mpr (mt (Block.frameFits_eq_true_iff _ _).mp full.not_ge))
    have own : exec .frameEncode s = .next s := exec_instr_held (c := .frameEncode) held
    refine ⟨own, ?_⟩
    rw [exec_engineComplete, word]
    exact own

end Sys2Proof.Machine

end

/-! SUPPORT. Proofs of the statements about the stream ports (44_demux.md R251, 45_host_commands.md R309) and one step of the
demultiplexer: its actions (R256), where it waits (R261, R268), what it consumes (R267) and that a delivery below the cap does not
disturb it (R270). -/

section

/- One theorem after the other: each concurrent elaboration reserves a thread's stack of memory. -/
set_option Elab.async false

namespace Sys2Proof.Machine

/-! ## The ports (R251, R309) -/

/-- Nothing to trim, nothing counted. -/
theorem Block.trimTo_of_length_le {b : Block} {bound : Nat} (le : b.sb.length ≤ bound) : b.trimTo bound = b := by
  rw [Block.trimTo, Nat.sub_eq_zero_of_le le]
  simp [Block.evict, Counters.addOverflow]

/-- Below the cap a delivery only appends its byte. -/
theorem Block.rxDeliver_of_lt (d : Byte) (p : Build) {b : Block} (below : b.sb.length < b.bufCap) :
    b.rxDeliver d p = { b with sb := b.sb ++ [d] } := by
  rw [Block.rxDeliver, Block.trimTo_of_length_le (Nat.le_sub_one_of_lt below)]

/-- Settles O25: a delivery below the cap evicts nothing, one at the cap what exceeds it; TXPORT by its two cases. -/
theorem portStepsMoveOneByte : Obligations.PortStepsMoveOneByte := by
  refine ⟨fun s d pos => ⟨fun below => onBlock_of_eq (Block.rxDeliver_of_lt d s.build below), fun atCap => ?_⟩,
    fun s => ⟨fun b rest => exec_txTake_cons, exec_txTake_nil⟩⟩
  have excess : s.blk.sb.length - (s.blk.bufCap - 1) = s.blk.sb.length + 1 - s.blk.mtu.toNat * 150 := by
    rw [Block.bufCap]
    omega
  refine onBlock_of_eq ?_
  rw [← excess]
  rfl

/-! ## The action of a step (R256) -/

theorem Block.act_line_ok {p : Build} {b : Block} {k : Nat} {c : Control}
    (parsed : parseLine p.listMax (b.sb.take (k + 1)) = .ok c) :
    b.act p (.line k) = { (b.evict (k + 1)).emit (.control c) with cnt := b.cnt.addControl } := by
  rw [Block.act, parsed]

theorem Block.act_line_error {p : Build} {b : Block} {k : Nat} {r : Reason}
    (failed : parseLine p.listMax (b.sb.take (k + 1)) = .error r) :
    b.act p (.line k) = { b.evict (k + 1) with cnt := b.cnt.addLineErr } := by
  rw [Block.act, failed]

/-- With DEMUX_EN = 1 and room in EVQ the step does what `classify` answers. -/
theorem exec_demuxStep_of_action {s : State} {a : Action} (enabled : s.blk.demuxEn = true)
    (room : s.blk.evq.length < s.build.evqDepth) (action : s.blk.action = a) :
    exec .demuxStep s = .next (s.withBlk (s.blk.act s.build a)) := by
  refine onBlock_of_eq (f := Block.demux) ?_
  by_cases wait : a = .wait
  · subst wait
    exact Block.demux_disabled (Bool.eq_false_iff.mpr fun on => ((Block.demuxEnabled_iff _ _).mp on).2.2 action)
  · rw [Block.demux_enabled ((Block.demuxEnabled_iff _ _).mpr ⟨enabled, room, action ▸ wait⟩), action]

/-- Settles O27: a step that is not enabled is not taken; any other is its action's effect. -/
theorem demuxStepPerformsItsAction : Obligations.DemuxStepPerformsItsAction := by
  refine fun s => ⟨fun off => ?_, fun enabled room => ⟨fun f action => ?_, fun e action => ?_, fun k action =>
    ⟨fun c parsed => ?_, fun r failed => ?_⟩, fun action => ?_⟩⟩
  · refine onBlock_of_eq (Block.demux_disabled (Bool.eq_false_iff.mpr fun on => ?_))
    obtain ⟨enabled, room, noWait⟩ := (Block.demuxEnabled_iff _ _).mp on
    rcases off with disabled | full | wait
    · exact Bool.eq_false_iff.mp disabled enabled
    · exact full.not_gt room
    · exact noWait wait
  · exact exec_demuxStep_of_action enabled room action
  · exact exec_demuxStep_of_action enabled room action
  · rw [exec_demuxStep_of_action enabled room action, Block.act_line_ok parsed]
    rfl
  · rw [exec_demuxStep_of_action enabled room action, Block.act_line_error failed]
    rfl
  · simp only [List.mem_cons, List.not_mem_nil, or_false] at action
    rcases action with action | action | action
    all_goals exact exec_demuxStep_of_action enabled room action

/-! ## Where it waits (R261, R268) -/

section
variable {mtu cap : Nat} {sb rest : Bytes}

theorem classifyLine_eq_wait_iff :
    classifyLine cap sb rest = .wait ↔ (∀ b ∈ rest, inAlphabet b = true) ∧ sb.length < cap := by
  rw [← firstOutside_eq_none_iff]
  cases found : firstOutside rest with
  | none => rw [classifyLine_of_none found]; split_ifs with below <;> simp [below]
  | some q => rw [classifyLine_of_outside found]; split_ifs <;> simp

theorem classifyFrame_eq_wait_iff :
    classifyFrame mtu sb rest = .wait ↔ rest = [] ∨ ([0xA5] <+: rest ∧ sb.length < mtu) := by
  rcases classifyFrame_cases mtu sb rest with ⟨rfl, answer⟩ | ⟨b, s, rfl, noMagic, answer⟩ | ⟨s, rfl, short, answer⟩ |
    ⟨s, rfl, whole, answer⟩
  · rw [answer]
    exact iff_of_true rfl (.inl rfl)
  · rw [answer]
    refine iff_of_false nofun ?_
    rintro (⟨⟨⟩⟩ | ⟨magic, -⟩)
    exact noMagic (List.cons_prefix_cons.mp magic).1.symm
  · rw [answer]
    exact iff_of_true rfl (.inr ⟨List.prefix_append [0xA5] s, short⟩)
  · rw [answer]
    refine iff_of_false (Action.ofDecode_ne_of_front rfl _).symm ?_
    rintro (⟨⟨⟩⟩ | ⟨-, short⟩)
    exact whole.not_gt short

/-- WAIT, path by path: no byte, a frame front without its second byte or its MTU bytes, a line that can still grow. -/
theorem classify_eq_wait_iff :
    classify mtu cap sb = .wait ↔
      sb = [] ∨ sb = [0x5A] ∨ ([0x5A, 0xA5] <+: sb ∧ sb.length < mtu) ∨
        (sb.head? = some 0x7B ∧ (∀ x ∈ sb.tail, inAlphabet x = true) ∧ sb.length < cap) := by
  cases sb with
  | nil => simp [classify]
  | cons b rest =>
    by_cases isFrame : b = 0x5A
    · subst isFrame
      rw [classify_of_frameFront, classifyFrame_eq_wait_iff]
      simp [List.cons_prefix_cons]
    by_cases isLine : b = 0x7B
    · subst isLine
      rw [classify_of_lineFront, classifyLine_eq_wait_iff]
      simp [List.cons_prefix_cons]
    · rw [classify_of_otherFront isFrame isLine]
      refine iff_of_false nofun ?_
      rintro (⟨⟨⟩⟩ | lone | ⟨magic, -⟩ | ⟨head, -⟩)
      · exact isFrame (List.cons.inj lone).1
      · exact isFrame (List.cons_prefix_cons.mp magic).1.symm
      · exact isLine (Option.some.inj head)

end

/-- Settles O29: the four states, each of them shorter than the cap. -/
theorem demuxWaitsExactlyThere : Obligations.DemuxWaitsExactlyThere := by
  refine fun b lo => ⟨classify_eq_wait_iff, fun full wait => ?_⟩
  rcases classify_eq_wait_iff.mp wait with empty | lone | ⟨-, short⟩ | ⟨-, -, short⟩
  · rw [empty, List.length_nil] at full
    omega
  · rw [lone, List.length_singleton] at full
    omega
  · omega
  · rw [Block.bufCap] at short
    omega

/-! ## What a step consumes (R267) -/

/-- The bytes an action takes from SB at a frame size. -/
def Action.consumes (mtu : Nat) : Action → Nat
  | .wait => 0
  | .noise | .dead | .full | .frameBad _ => 1
  | .frameOk _ => mtu
  | .line k => k + 1

theorem Block.act_sb_eq_drop (p : Build) (b : Block) (a : Action) :
    (b.act p a).sb = b.sb.drop (a.consumes b.mtu.toNat) := by
  rw [Block.act_sb]
  cases a <;> rfl

/-- `classify` answers no action for which SB is too short. -/
theorem classify_consumes_le {mtu cap : Nat} {sb : Bytes} : (classify mtu cap sb).consumes mtu ≤ sb.length := by
  have front : classify mtu cap sb ≠ .wait → 1 ≤ sb.length := by
    refine fun noWait => List.length_pos_iff.mpr fun empty => noWait ?_
    rw [empty, classify]
  cases action : classify mtu cap sb with
  | wait => exact Nat.zero_le _
  | noise | dead | full | frameBad _ => exact front (by simp [action])
  | frameOk f => exact ((classify_eq_ofDecode_iff (.ok f)).mp action).2.1
  | line k =>
    obtain ⟨body, rest, rfl, rfl, -⟩ := classify_eq_line_iff.mp action
    simp [Action.consumes]

/-- A line is cut with its terminator: at least two bytes. -/
theorem classify_line_pos {mtu cap k : Nat} {sb : Bytes} (action : classify mtu cap sb = .line k) : 1 ≤ k := by
  obtain ⟨body, rest, -, rfl, -⟩ := classify_eq_line_iff.mp action
  exact Nat.le_add_left 1 _

/-- Any action but WAIT takes at least one byte. -/
theorem Action.consumes_pos {a : Action} {mtu : Nat} (pos : 1 ≤ mtu) (noWait : a ≠ .wait) : 1 ≤ a.consumes mtu := by
  cases a with
  | wait => exact absurd rfl noWait
  | frameOk f => exact pos
  | line k => exact Nat.le_add_left 1 k
  | _ => exact Nat.le_refl 1

theorem Block.demux_sb {p : Build} {b : Block} (enabled : b.demuxEnabled p = true) :
    (b.demux p).sb = b.sb.drop (b.action.consumes b.mtu.toNat) := by
  rw [Block.demux_enabled enabled, Block.act_sb_eq_drop]

@[simp] theorem Block.demux_mtu (p : Build) (b : Block) : (b.demux p).mtu = b.mtu := by
  rw [Block.demux_frame]

@[simp] theorem Block.demux_demuxEn (p : Build) (b : Block) : (b.demux p).demuxEn = b.demuxEn := by
  rw [Block.demux_frame]

theorem demuxRun_of_disabled {p : Build} {b : Block} (disabled : b.demuxEnabled p = false) (n : Nat) :
    Script.demuxRun p n b = b := by
  induction n with
  | zero => rfl
  | succ n ih => rw [Script.demuxRun, Block.demux_disabled disabled, ih]

/-- As many steps as there are bytes at most: each step that is taken leaves fewer. -/
theorem demuxRun_disabled {p : Build} {b : Block} {n : Nat} (lo : 1 ≤ b.mtu.toNat) (le : b.sb.length ≤ n) :
    (Script.demuxRun p n b).demuxEnabled p = false := by
  induction n generalizing b with
  | zero =>
    have empty : b.sb = [] := List.eq_nil_of_length_eq_zero (Nat.le_zero.mp le)
    refine Bool.eq_false_iff.mpr fun on => ((Block.demuxEnabled_iff _ _).mp on).2.2 ?_
    exact classify_eq_wait_iff.mpr (.inl empty)
  | succ n ih =>
    cases enabled : b.demuxEnabled p with
    | false => rwa [demuxRun_of_disabled enabled]
    | true =>
      have taken := b.action.consumes_pos lo ((Block.demuxEnabled_iff _ _).mp enabled).2.2
      refine ih (by rwa [Block.demux_mtu]) ?_
      rw [Block.demux_sb enabled, List.length_drop]
      omega

/-- Settles O30: a step takes what its action consumes; the run ends because every step takes something. -/
theorem demuxStepConsumesInput : Obligations.DemuxStepConsumesInput := by
  refine fun p b lo => ⟨fun enabled => ?_, demuxRun_disabled (by omega) (Nat.le_refl _)⟩
  have noWait := ((Block.demuxEnabled_iff _ _).mp enabled).2.2
  refine ⟨b.action.consumes b.mtu.toNat, b.action.consumes_pos (by omega) noWait, classify_consumes_le,
    Block.demux_sb enabled, ?_, ?_, fun noFrame noLine => ?_⟩
  · rintro ⟨f, action⟩
    rw [action, Action.consumes]
  · rintro ⟨k, action⟩
    rw [action, Action.consumes]
    exact Nat.succ_le_succ (classify_line_pos action)
  · cases action : b.action with
    | wait => exact absurd action noWait
    | frameOk f => exact absurd action (noFrame f)
    | line k => exact absurd action (noLine k)
    | _ => rfl

/-! ## A delivery and a step (R270) -/

/-- Bytes behind what an action was decided on do not change it; only FULL is decided on the length. -/
theorem classify_append {mtu cap : Nat} {sb : Bytes} (t : Bytes) (noWait : classify mtu cap sb ≠ .wait)
    (below : sb.length < cap) : classify mtu cap (sb ++ t) = classify mtu cap sb := by
  have candidate : ∀ r, classify mtu cap sb = .ofDecode r → classify mtu cap (sb ++ t) = .ofDecode r := fun r action => by
    obtain ⟨magic, whole, decoded⟩ := (classify_eq_ofDecode_iff r).mp action
    refine (classify_eq_ofDecode_iff r).mpr ⟨magic.trans (List.prefix_append sb t), ?_, ?_⟩
    · rw [List.length_append]
      exact Nat.le_add_right_of_le whole
    · rw [List.take_append_of_le_length whole, decoded]
  cases action : classify mtu cap sb with
  | wait => exact absurd action noWait
  | frameOk f => exact candidate (.ok f) action
  | frameBad e => exact candidate (.error e) action
  | noise =>
    obtain ⟨b, rest, rfl, notLine, second⟩ := classify_eq_noise_iff.mp action
    refine classify_eq_noise_iff.mpr ⟨b, rest ++ t, rfl, notLine, second.imp_right ?_⟩
    rintro ⟨c, s, rfl, notMagic⟩
    exact ⟨c, s ++ t, rfl, notMagic⟩
  | line k =>
    obtain ⟨body, rest, rfl, count, within⟩ := classify_eq_line_iff.mp action
    exact classify_eq_line_iff.mpr ⟨body, rest ++ t, by simp, count, within⟩
  | dead =>
    obtain ⟨body, x, rest, rfl, notLf, outside, within⟩ := classify_eq_dead_iff.mp action
    exact classify_eq_dead_iff.mpr ⟨body, x, rest ++ t, by simp, notLf, outside, within⟩
  | full =>
    obtain ⟨-, -, -, full⟩ := classify_eq_full_iff.mp action
    exact absurd below full.not_gt

/-- An action that consumes no byte of `t` does the same with `t` at the end of SB. -/
theorem Block.act_append {p : Build} {b : Block} {a : Action} (t : Bytes) (le : a.consumes b.mtu.toNat ≤ b.sb.length) :
    ({ b with sb := b.sb ++ t } : Block).act p a = { b.act p a with sb := (b.act p a).sb ++ t } := by
  have rest : (b.sb ++ t).drop (a.consumes b.mtu.toNat) = b.sb.drop (a.consumes b.mtu.toNat) ++ t :=
    List.drop_append_of_le_length le
  cases a with
  | wait => rfl
  | line k =>
    have cut : (b.sb ++ t).take (k + 1) = b.sb.take (k + 1) := List.take_append_of_le_length le
    cases parsed : parseLine p.listMax (b.sb.take (k + 1)) with
    | ok c =>
      rw [Block.act_line_ok parsed, Block.act_line_ok (by rwa [cut])]
      simp only [Action.consumes] at rest
      simp [Block.emit, Block.evict, rest]
    | error r =>
      rw [Block.act_line_error parsed, Block.act_line_error (by rwa [cut])]
      simp only [Action.consumes] at rest
      simp [Block.evict, rest]
  | _ =>
    simp only [Action.consumes] at rest
    simp [Block.act, Block.resync, Block.emit, Block.evict, rest]

/-- Settles O31: the delivered byte lies behind all that the action looks at, and behind all that it consumes. -/
theorem deliveryAndDemuxCommuteBelowCap : Obligations.DeliveryAndDemuxCommuteBelowCap := by
  intro p b d _ below enabled
  obtain ⟨on, room, noWait⟩ := (Block.demuxEnabled_iff _ _).mp enabled
  have action : (b.rxDeliver d p).action = b.action := by
    rw [Block.rxDeliver_of_lt d p below]
    exact classify_append [d] noWait below
  have still : (b.rxDeliver d p).demuxEnabled p = true :=
    (Block.demuxEnabled_iff _ _).mpr ⟨on, room, by rwa [action]⟩
  refine ⟨still, action, ?_⟩
  have left : (b.demux p).sb.length < (b.demux p).bufCap := by
    rw [Block.demux_sb enabled, List.length_drop, Block.bufCap, Block.demux_mtu]
    exact Nat.lt_of_le_of_lt (Nat.sub_le _ _) below
  have reached : b.action.consumes b.mtu.toNat ≤ b.sb.length := classify_consumes_le
  rw [Block.rxDeliver_of_lt d p left, Block.demux_enabled still, action, Block.rxDeliver_of_lt d p below,
    Block.act_append [d] reached, Block.demux_enabled enabled]

end Sys2Proof.Machine

end

/-! SUPPORT. Proof of the statement about resynchronisation (44_demux.md R269): with a frame further back in SB the demultiplexer
neither waits nor cuts a line that reaches into the frame, so each step brings the frame nearer. -/

section

/- One theorem after the other: each concurrent elaboration reserves a thread's stack of memory. -/
set_option Elab.async false

namespace Sys2Proof.Machine

/-- `frame` is a valid frame of `mtu` bytes with the contents `f`. -/
structure IsFrame (mtu : Nat) (frame : Bytes) (f : Frame) : Prop where
  magic : [0x5A, 0xA5] <+: frame
  length : frame.length = mtu
  decoded : decodeFrame frame mtu = .ok f

/-- In the `n` states from `b` on, EVQ has room as long as SB holds `least` bytes. -/
def HasRoomFor (p : Build) (n least : Nat) (b : Block) : Prop :=
  ∀ i ≤ n, least ≤ (Script.demuxRun p i b).sb.length → (Script.demuxRun p i b).evq.length < p.evqDepth

/-- After `j` steps `frame` is at the front, and the next step consumes and emits it. -/
def EmitsFrame (p : Build) (j : Nat) (frame rest : Bytes) (f : Frame) (b : Block) : Prop :=
  (Script.demuxRun p j b).sb = frame ++ rest ∧ (Script.demuxRun p j b).action = .frameOk f ∧
    (Script.demuxRun p (j + 1) b).sb = rest ∧ (Script.demuxRun p (j + 1) b).evq = (Script.demuxRun p j b).evq ++ [.frame f]

/-- After `j` steps an accidental frame is at the front, which begins inside `noise`. -/
def MeetsAccident (p : Build) (j : Nat) (noise frame rest : Bytes) (b : Block) : Prop :=
  ∃ q f, 0 < q.length ∧ q <:+ noise ∧ (Script.demuxRun p j b).sb = q ++ frame ++ rest ∧
    (Script.demuxRun p j b).action = .frameOk f

/-- R269's claim: in at most as many steps as the noise has bytes, each of them taken, one of the two is so. -/
def Resynchronises (p : Build) (noise frame rest : Bytes) (f : Frame) (b : Block) : Prop :=
  ∃ j ≤ noise.length, (∀ i ≤ j, (Script.demuxRun p i b).demuxEnabled p = true) ∧
    (EmitsFrame p j frame rest f b ∨ MeetsAccident p j noise frame rest b)

section
variable {mtu cap k : Nat} {noise frame rest : Bytes} {f : Frame}

/-! ## One step in front of a frame -/

/-- A valid frame at the front is what `classify` answers. -/
theorem IsFrame.classify_eq (valid : IsFrame mtu frame f) : classify mtu cap (frame ++ rest) = .frameOk f := by
  refine (classify_eq_ofDecode_iff (.ok f)).mpr ⟨valid.magic.trans (List.prefix_append ..), ?_, ?_⟩
  · rw [List.length_append, valid.length]
    exact Nat.le_add_right _ _
  · rw [List.take_left' valid.length, valid.decoded]

/-- The second byte of the magic is outside the line alphabet. -/
theorem mem_magic_outside (magic : [0x5A, 0xA5] <+: frame) (front : Bytes) :
    ∃ x ∈ front ++ frame ++ rest, inAlphabet x = false := by
  obtain ⟨back, rfl⟩ := magic
  exact ⟨0xA5, by simp, by decide⟩

/-- With a whole frame behind a first byte there is no wait: a candidate has its MTU bytes, a line its end. -/
theorem IsFrame.classify_ne_wait (valid : IsFrame mtu frame f) (lo : 14 ≤ mtu) (nonempty : 0 < noise.length) :
    classify mtu cap (noise ++ frame ++ rest) ≠ .wait := by
  have long : mtu < (noise ++ frame ++ rest).length := by
    rw [List.length_append, List.length_append, valid.length]
    omega
  intro wait
  rcases classify_eq_wait_iff.mp wait with empty | lone | ⟨-, short⟩ | ⟨-, within, -⟩
  · rw [empty, List.length_nil] at long
    omega
  · rw [lone, List.length_singleton] at long
    omega
  · omega
  · obtain ⟨b, noise, rfl⟩ := List.length_pos_iff_exists_cons.mp nonempty
    obtain ⟨x, mem, outside⟩ := mem_magic_outside (rest := rest) valid.magic noise
    rw [within x mem] at outside
    cases outside

/-- A line cut in front of a frame ends inside the noise: neither byte of the magic is its LF, and the second one is outside the
line alphabet. -/
theorem classify_line_lt_of_magic (magic : [0x5A, 0xA5] <+: frame) (nonempty : 0 < noise.length)
    (action : classify mtu cap (noise ++ frame ++ rest) = .line k) : k < noise.length := by
  obtain ⟨b, noise, rfl⟩ := List.length_pos_iff_exists_cons.mp nonempty
  obtain ⟨back, rfl⟩ := magic
  obtain ⟨body, tail, split, rfl, within⟩ := classify_eq_line_iff.mp action
  have same : noise ++ 0x5A :: 0xA5 :: (back ++ rest) = body ++ lf :: tail := by simpa using (List.cons.inj split).2
  rw [List.length_cons]
  by_contra! long
  rcases List.append_eq_append_iff.mp same with ⟨beyond, rfl, cut⟩ | ⟨beyond, rfl, cut⟩
  · rcases beyond with _ | ⟨x, _ | ⟨y, beyond⟩⟩
    · cases (List.cons.inj cut).1
    · cases (List.cons.inj (List.cons.inj cut).2).1
    · obtain ⟨rfl, -⟩ := List.cons.inj (List.cons.inj cut).2
      exact absurd (within 0xA5 (by simp)) (by decide)
  · rw [List.length_append] at long
    have empty : beyond = [] := List.eq_nil_of_length_eq_zero (by omega)
    subst empty
    cases (List.cons.inj cut).1

/-- Whatever the action in front of a frame, it ends inside the noise, unless it is an accidental frame. -/
theorem IsFrame.consumes_le (valid : IsFrame mtu frame f) (nonempty : 0 < noise.length)
    (noAccident : ∀ g, classify mtu cap (noise ++ frame ++ rest) ≠ .frameOk g) :
    (classify mtu cap (noise ++ frame ++ rest)).consumes mtu ≤ noise.length := by
  cases action : classify mtu cap (noise ++ frame ++ rest) with
  | wait => exact Nat.zero_le _
  | frameOk g => exact absurd action (noAccident g)
  | line k => exact classify_line_lt_of_magic valid.magic nonempty action
  | _ => exact nonempty

/-! ## The run -/

variable {p : Build} {b : Block}

/-- With the frame at the front, the next step emits it. -/
theorem IsFrame.emits (valid : IsFrame b.mtu.toNat frame f) (enabled : b.demuxEnabled p = true) (front : b.sb = frame ++ rest) :
    EmitsFrame p 0 frame rest f b := by
  have action : b.action = .frameOk f := by rw [Block.action, front, valid.classify_eq]
  refine ⟨front, action, ?_, ?_⟩
  · show (b.demux p).sb = rest
    rw [Block.demux_sb enabled, action, front]
    exact List.drop_left' valid.length
  · show (b.demux p).evq = b.evq ++ [.frame f]
    rw [Block.demux_enabled enabled, action]
    rfl

/-- A step in front of a frame that is no accident drops a part of the noise. -/
theorem IsFrame.demux_sb (valid : IsFrame b.mtu.toNat frame f) (lo : 14 ≤ b.mtu.toNat) (nonempty : 0 < noise.length)
    (sb : b.sb = noise ++ frame ++ rest) (enabled : b.demuxEnabled p = true) (noAccident : ∀ g, b.action ≠ .frameOk g) :
    ∃ left, left <:+ noise ∧ left.length < noise.length ∧ (b.demux p).sb = left ++ frame ++ rest := by
  have noWait := ((Block.demuxEnabled_iff _ _).mp enabled).2.2
  have taken := b.action.consumes_pos (Nat.le_trans (by decide) lo) noWait
  have within : b.action.consumes b.mtu.toNat ≤ noise.length := by
    rw [Block.action, sb] at noAccident ⊢
    exact valid.consumes_le nonempty noAccident
  refine ⟨noise.drop (b.action.consumes b.mtu.toNat), List.drop_suffix _ _, by rw [List.length_drop]; omega, ?_⟩
  rw [Block.demux_sb enabled, sb, List.append_assoc, List.drop_append_of_le_length within, List.append_assoc]

theorem resynchronises_now (enabled : b.demuxEnabled p = true)
    (h : EmitsFrame p 0 frame rest f b ∨ MeetsAccident p 0 noise frame rest b) : Resynchronises p noise frame rest f b := by
  refine ⟨0, Nat.zero_le _, fun i le => ?_, h⟩
  rwa [Nat.le_zero.mp le]

/-- One step more before a shorter noise. -/
theorem resynchronises_later {left : Bytes} (enabled : b.demuxEnabled p = true) (suffix : left <:+ noise)
    (shorter : left.length < noise.length) (h : Resynchronises p left frame rest f (b.demux p)) :
    Resynchronises p noise frame rest f b := by
  obtain ⟨j, le, run, outcome⟩ := h
  refine ⟨j + 1, Nat.succ_le_of_lt (Nat.lt_of_le_of_lt le shorter), fun i _ => ?_, outcome.imp_right ?_⟩
  · cases i with
    | zero => exact enabled
    | succ i => exact run i (by omega)
  · rintro ⟨q, g, pos, inLeft, front, action⟩
    exact ⟨q, g, pos, inLeft.trans suffix, front, action⟩

/-- With room in EVQ the step in front of a frame, or of noise before one, is enabled. -/
theorem IsFrame.demuxEnabled (valid : IsFrame b.mtu.toNat frame f) (lo : 14 ≤ b.mtu.toNat) (on : b.demuxEn = true)
    (sb : b.sb = noise ++ frame ++ rest) (room : b.evq.length < p.evqDepth) : b.demuxEnabled p = true := by
  refine (Block.demuxEnabled_iff _ _).mpr ⟨on, room, ?_⟩
  rw [Block.action, sb]
  rcases noise.length.eq_zero_or_pos with empty | nonempty
  · obtain rfl := List.eq_nil_of_length_eq_zero empty
    rw [List.nil_append, valid.classify_eq]
    exact nofun
  · exact valid.classify_ne_wait lo nonempty

/-- By induction on the noise: each step drops a part of it, until the frame is at the front or an accidental one is met. -/
theorem IsFrame.resynchronises (valid : IsFrame b.mtu.toNat frame f) (lo : 14 ≤ b.mtu.toNat) (on : b.demuxEn = true)
    (sb : b.sb = noise ++ frame ++ rest) (room : HasRoomFor p noise.length (b.mtu.toNat + rest.length) b) :
    Resynchronises p noise frame rest f b := by
  induction len : noise.length using Nat.strong_induction_on generalizing noise b with
  | _ n ih =>
    have long : b.mtu.toNat + rest.length ≤ b.sb.length := by
      rw [sb, List.length_append, List.length_append, valid.length]
      omega
    have enabled := valid.demuxEnabled lo on sb (room 0 (Nat.zero_le _) long)
    rcases noise.length.eq_zero_or_pos with empty | nonempty
    · obtain rfl := List.eq_nil_of_length_eq_zero empty
      exact resynchronises_now enabled (.inl (valid.emits enabled sb))
    by_cases accident : ∃ g, b.action = .frameOk g
    · obtain ⟨g, action⟩ := accident
      exact resynchronises_now enabled (.inr ⟨noise, g, nonempty, List.suffix_refl _, sb, action⟩)
    obtain ⟨left, suffix, shorter, front⟩ := valid.demux_sb lo nonempty sb enabled (not_exists.mp accident)
    refine resynchronises_later enabled suffix shorter (ih _ (len ▸ shorter) ?_ ?_ ?_ front ?_ rfl)
    · rwa [Block.demux_mtu]
    · rwa [Block.demux_mtu]
    · rwa [Block.demux_demuxEn]
    · rw [Block.demux_mtu]
      exact fun i le => room (i + 1) (by omega)

end

/-- An encoded frame is a frame, with the fields it was made of (R182). -/
theorem isFrame_encodeFrame (runId seq total : Half) {payload : Bytes} {mtu : Nat} (lo : 14 ≤ mtu) (hi : mtu ≤ 65535)
    (len : payload.length = mtu - 14) :
    IsFrame mtu (encodeFrame runId seq total payload mtu)
      ⟨runId, seq, total, BitVec.ofNat 16 (mtu - 14), crc32 (frameHead runId seq total payload mtu)⟩ :=
  ⟨magic_prefix_encodeFrame .., encodeFrame_length runId seq total lo len,
    decodeOfEncodedFrame runId seq total payload mtu lo hi len⟩

/-- Settles O32: the encoded frame is a valid one behind the noise. -/
theorem noiseBeforeFrameIsSkipped : Obligations.NoiseBeforeFrameIsSkipped :=
  fun _ b _ _ _ runId seq total lo len on sb room =>
    (isFrame_encodeFrame runId seq total lo (Nat.le_of_lt_succ b.mtu.isLt) len).resynchronises lo on sb room

end Sys2Proof.Machine

end

/-! SUPPORT. What one operation can do to the block, said once (00_scope.md R12, 45_host_commands.md R300-R320), and the statements
that follow case by case: the transmit order, the counters, the head of EVQ and the inputs of a pending command. -/

section

/- One theorem after the other: each concurrent elaboration reserves a thread's stack of memory. -/
set_option Elab.async false

namespace Sys2Proof.Machine

/-- `Effect p b i b'`: on its way from the block `b` to `b'` the operation `i` did one of the things an operation can do. A write
or step that is refused or not enabled does nothing, or changes a sticky bit. -/
inductive Effect (p : Build) (b : Block) : Instr → Block → Prop where
  | nothing (i : Instr) : Effect p b i b
  | sticky (i : Instr) (k : Sticky) (noNewDone : k.cmdDone = true → b.sticky.cmdDone = true) :
      Effect p b i { b with sticky := k }
  | completed (i : Instr) (c : Command) (b' : Block) (r : ResultCode) (busy : b.busy = true) (word : b.pend = c.word)
      (own : i = .engineComplete ∨ i = c.instr) (performed : performOf c p b = some (b', r)) :
      Effect p b i (b'.complete c.word r)
  | accepted (d : Word) (free : b.busy = false) : Effect p b (.wrCmd d) { b with pend := d, busy := true }
  | softReset (d : Word) (reset : d.getLsbD 31 = true) : Effect p b (.wrCtrl d) (b.softReset p)
  | enabled (d : Word) (on : Bool) : Effect p b (.wrCtrl d) { b with demuxEn := on }
  | irqEnabled (d : Word) (e : BitVec 3) : Effect p b (.wrIrqEn d) { b with irqEn := e }
  | mtu (d : Word) (free : b.busy = false) (legal : ¬ ((lowHalf d).toNat < 14 ∨ p.mtuMax < (lowHalf d).toNat)) :
      Effect p b (.wrMtu d) ({ b with mtu := lowHalf d }.trimTo ((lowHalf d).toNat * 150))
  | txOperands (i : Instr) (runId seq total plen : Half) (free : b.busy = false) :
      Effect p b i { b with txRunId := runId, txSeq := seq, txTotal := total, txPlen := plen }
  | decLen (d : Word) (free : b.busy = false) (legal : (lowHalf d).toNat ≤ p.decBufSize) :
      Effect p b (.wrDecLen d) { b with decLen := lowHalf d }
  | txData (d : Word) (free : b.busy = false) (room : b.txf.length ≠ p.txFifoDepth) :
      Effect p b (.wrTxData d) { b with txf := b.txf ++ [lowByte d] }
  | evqPop (d : Word) (r : Record) (rest : List Record) (head : b.evq = r :: rest) :
      Effect p b (.wrEvqPop d) { b with evq := rest }
  | pay (k : BitVec 14) (d : Word) (free : b.busy = false) :
      Effect p b (.wrPay k d) { b with mem := windowWrite b.mem payBase p.payBufSize (4 * k.toNat) d }
  | dec (k : BitVec 14) (d : Word) (free : b.busy = false) :
      Effect p b (.wrDec k d) { b with mem := windowWrite b.mem decBase p.decBufSize (4 * k.toNat) d }
  | delivered (d : Byte) : Effect p b (.rxDeliver d) (b.rxDeliver d p)
  | taken (x : Byte) (rest : Bytes) (head : b.txf = x :: rest) : Effect p b .txTake { b with txf := rest }
  | demux (enabled : b.demuxEnabled p = true) : Effect p b .demuxStep (b.act p b.action)

/-! ## Every operation has one of the effects -/

section
variable {p : Build} {b : Block}

theorem effect_completeWith {c : Command} {i : Instr} (own : b.pend = c.word → i = .engineComplete ∨ i = c.instr) :
    Effect p b i (completeWith c.word (performOf c) p b) := by
  rcases completeWith_cases c.word (performOf c) p b with ⟨same, -⟩ | ⟨b', r, pending, performed, done⟩
  · rw [same]
    exact .nothing i
  · obtain ⟨busy, word⟩ := (b.pending_iff c.word).mp pending
    rw [done]
    exact .completed i c b' r busy word (own word) performed

/-- A guarded write: while BUSY only ERR_WR_BUSY, else its own effect. -/
theorem effect_guardedWrite {f : Block → Block} {i : Instr} (own : b.busy = false → Effect p b i (f b)) :
    Effect p b i (guardedWrite f b) := by
  cases busy : b.busy with
  | true => rw [guardedWrite_busy f b busy]; exact .sticky i _ id
  | false => rw [guardedWrite_free f b busy]; exact own busy

theorem effect_writeCmd (d : Word) : Effect p b (.wrCmd d) (writeCmd d p b) := by
  cases busy : b.busy with
  | true => rw [writeCmd_busy d p busy]; exact .sticky _ _ id
  | false => rw [writeCmd_free d p busy]; exact .accepted d busy

theorem effect_writeCtrl (d : Word) : Effect p b (.wrCtrl d) (writeCtrl d p b) := by
  cases reset : d.getLsbD 31 with
  | true => rw [writeCtrl_softReset reset]; exact .softReset d reset
  | false => rw [writeCtrl_demuxEn reset]; exact .enabled d _

theorem effect_writeStatus (d : Word) : Effect p b (.wrStatus d) (writeStatus d p b) :=
  .sticky _ _ fun done => (Bool.and_eq_true_iff.mp done).1

theorem effect_writeMtu (d : Word) : Effect p b (.wrMtu d) (writeMtu d p b) := by
  refine effect_guardedWrite fun free => ?_
  split_ifs with enabled illegal
  · exact .sticky _ _ id
  · exact .sticky _ _ id
  · exact .mtu d free illegal

theorem effect_writeDecLen (d : Word) : Effect p b (.wrDecLen d) (writeDecLen d p b) := by
  refine effect_guardedWrite fun free => ?_
  split_ifs with illegal
  · exact .sticky _ _ id
  · exact .decLen d free (Nat.not_lt.mp illegal)

theorem effect_writeTxData (d : Word) : Effect p b (.wrTxData d) (writeTxData d p b) := by
  refine effect_guardedWrite fun free => ?_
  split_ifs with full
  · exact .sticky _ _ id
  · exact .txData d free full

theorem effect_writeEvqPop (d : Word) : Effect p b (.wrEvqPop d) (writeEvqPop p b) := by
  cases queue : b.evq with
  | nil => rw [writeEvqPop_nil p queue]; exact .sticky _ _ id
  | cons r rest => rw [writeEvqPop_cons p queue]; exact .evqPop d r rest queue

theorem effect_demux : Effect p b .demuxStep (b.demux p) := by
  cases enabled : b.demuxEnabled p with
  | true => rw [Block.demux_enabled enabled]; exact .demux enabled
  | false => rw [Block.demux_disabled enabled]; exact .nothing _

end

theorem effect_onBlock {f : Build → Block → Block} {i : Instr} {s t : State} (h : onBlock f s = .next t)
    (own : Effect s.build s.blk i (f s.build s.blk)) : Effect s.build s.blk i t.blk := by
  rw [onBlock_next h]
  exact own

theorem exec_instr_effect {c : Command} {s t : State} (h : exec c.instr s = .next t) :
    Effect s.build s.blk c.instr t.blk := by
  rw [exec_instr] at h
  exact effect_onBlock h (effect_completeWith fun _ => .inr rfl)

theorem exec_engineComplete_effect {s t : State} (h : exec .engineComplete s = .next t) :
    Effect s.build s.blk .engineComplete t.blk := by
  rw [exec_engineComplete, exec_instr] at h
  exact effect_onBlock h (effect_completeWith fun _ => .inl rfl)

theorem exec_txTake_effect {s t : State} (h : exec .txTake s = .next t) : Effect s.build s.blk .txTake t.blk := by
  cases fifo : s.blk.txf with
  | nil => rw [exec_txTake_nil fifo] at h; cases h; exact .nothing _
  | cons x rest => rw [exec_txTake_cons fifo] at h; cases h; exact .taken x rest fifo

theorem exec_effect {i : Instr} {s t : State} (h : exec i s = .next t) : Effect s.build s.blk i t.blk := by
  cases i with
  | nop => exact exec_instr_effect (c := .nop) h
  | cntClear => exact exec_instr_effect (c := .cntClear) h
  | bufFlush => exact exec_instr_effect (c := .bufFlush) h
  | evqFlush => exact exec_instr_effect (c := .evqFlush) h
  | txFlush => exact exec_instr_effect (c := .txFlush) h
  | crcInit => exact exec_instr_effect (c := .crcInit) h
  | crcByte imm8 => exact exec_instr_effect (c := .crcByte imm8) h
  | crcBuf => exact exec_instr_effect (c := .crcBuf) h
  | frameEncode => exact exec_instr_effect (c := .frameEncode) h
  | frameDecode => exact exec_instr_effect (c := .frameDecode) h
  | lineParse => exact exec_instr_effect (c := .lineParse) h
  | illegal w => exact exec_instr_effect (c := .illegal w) h
  | wrCmd d => exact effect_onBlock h (effect_writeCmd d)
  | wrCtrl d => exact effect_onBlock h (effect_writeCtrl d)
  | wrStatus d => exact effect_onBlock h (effect_writeStatus d)
  | wrIrqEn d => exact effect_onBlock h (.irqEnabled d _)
  | wrMtu d => exact effect_onBlock h (effect_writeMtu d)
  | wrTxRunId d | wrTxSeq d | wrTxTotal d | wrTxPlen d =>
    exact effect_onBlock h (effect_guardedWrite fun free => .txOperands _ _ _ _ _ free)
  | wrDecLen d => exact effect_onBlock h (effect_writeDecLen d)
  | wrTxData d => exact effect_onBlock h (effect_writeTxData d)
  | wrEvqPop d => exact effect_onBlock h (effect_writeEvqPop d)
  | wrPay k d => exact effect_onBlock h (effect_guardedWrite fun free => .pay k d free)
  | wrDec k d => exact effect_onBlock h (effect_guardedWrite fun free => .dec k d free)
  | wrOther _ _ | rdAny _ => cases h; exact .nothing _
  | rxDeliver d => exact effect_onBlock h (.delivered d)
  | txTake => exact exec_txTake_effect h
  | engineComplete => exact exec_engineComplete_effect h
  | demuxStep => exact effect_onBlock h effect_demux

/-! ## Around the block -/

/-- Only TXPORT's step and a bus read reach outside the block. -/
theorem exec_eq_onBlock {i : Instr} (s : State) (noTake : i ≠ .txTake) (noRead : ∀ k, i ≠ .rdAny k) :
    ∃ f, exec i s = onBlock f s := by
  cases i with
  | wrOther k d => exact ⟨fun _ b => b, rfl⟩
  | engineComplete => exact ⟨_, (exec_engineComplete s).trans (exec_instr _ s)⟩
  | txTake => exact absurd rfl noTake
  | rdAny k => exact absurd rfl (noRead k)
  | _ => exact ⟨_, rfl⟩

theorem exec_wire {i : Instr} {s t : State} (noTake : i ≠ .txTake) (h : exec i s = .next t) : t.wire = s.wire := by
  by_cases read : ∃ k, i = .rdAny k
  · obtain ⟨k, rfl⟩ := read
    cases h
    rfl
  · obtain ⟨f, onBlk⟩ := exec_eq_onBlock s noTake (not_exists.mp read)
    rw [onBlock_next (onBlk.symm.trans h), State.withBlk_wire]

theorem exec_build {i : Instr} {s t : State} (h : exec i s = .next t) : t.build = s.build := by
  by_cases take : i = .txTake
  · subst take
    cases fifo : s.blk.txf with
    | nil => rw [exec_txTake_nil fifo] at h; cases h; rfl
    | cons x rest => rw [exec_txTake_cons fifo] at h; cases h; rfl
  by_cases read : ∃ k, i = .rdAny k
  · obtain ⟨k, rfl⟩ := read
    cases h
    rfl
  · obtain ⟨f, onBlk⟩ := exec_eq_onBlock s take (not_exists.mp read)
    rw [onBlock_next (onBlk.symm.trans h), State.withBlk_build]

/-! ## What a completion writes -/

/-- A pending command other than an illegal word, completed by its own operation or the ENGINE's step. -/
theorem completes_of_word {c : Command} {b : Block} {i : Instr} (wf : c.instr.wf = true) (busy : b.busy = true)
    (word : b.pend = c.word) (own : i = .engineComplete ∨ i = c.instr) : completes c b i :=
  ⟨busy, by rw [word, decodeCommand_word wf], own⟩

section
variable {c : Command} {p : Build} {b b' : Block} {r : ResultCode}

/-- Only TX_FLUSH takes bytes out of TXF, only CNT_CLEAR writes the counters. -/
theorem performOf_txf_cnt (h : performOf c p b = some (b', r)) :
    (c ≠ .txFlush → b.txf <+: b'.txf) ∧ (c ≠ .cntClear → b'.cnt = b.cnt) := by
  cases c with
  | txFlush => cases h; exact ⟨absurd rfl, fun _ => rfl⟩
  | cntClear => cases h; exact ⟨fun _ => List.prefix_refl _, absurd rfl⟩
  | frameEncode =>
    simp only [performOf, performFrameEncode] at h
    split_ifs at h
    · cases h; exact ⟨fun _ => List.prefix_refl _, fun _ => rfl⟩
    · cases h; exact ⟨fun _ => List.prefix_append _ _, fun _ => rfl⟩
  | frameDecode =>
    simp only [performOf, performFrameDecode] at h
    split at h <;> cases h <;> exact ⟨fun _ => List.prefix_refl _, fun _ => rfl⟩
  | lineParse =>
    simp only [performOf, performLineParse] at h
    split at h <;> cases h <;> exact ⟨fun _ => List.prefix_refl _, fun _ => rfl⟩
  | _ => cases h; exact ⟨fun _ => List.prefix_refl _, fun _ => rfl⟩

end

/-- A DEMUX action only appends to EVQ. -/
theorem Block.evq_prefix_act (p : Build) (b : Block) (a : Action) : b.evq <+: (b.act p a).evq := by
  cases a with
  | frameOk _ | frameBad _ => exact List.prefix_append _ _
  | line k =>
    cases parsed : parseLine p.listMax (b.sb.take (k + 1)) with
    | ok c => rw [Block.act_line_ok parsed]; exact List.prefix_append _ _
    | error r => rw [Block.act_line_error parsed]; exact List.prefix_refl _
  | _ => exact List.prefix_refl _

/-! ## The statements -/

section
variable {p : Build} {b b' : Block} {i : Instr}

/-- TXF grows at its end, but for TXPORT's step, TX_FLUSH and soft reset. -/
theorem Effect.txf_prefix (h : Effect p b i b') (noTake : i ≠ .txTake) (noReset : isSoftReset i = false)
    (noFlush : ¬ completes .txFlush b i) : b.txf <+: b'.txf := by
  cases h with
  | completed _ c b' r busy word own performed =>
    refine (performOf_txf_cnt performed).1 ?_
    rintro rfl
    exact noFlush (completes_of_word rfl busy word own)
  | softReset d reset => exact absurd reset (Bool.eq_false_iff.mp noReset)
  | taken x rest head => exact absurd rfl noTake
  | txData d free room => exact List.prefix_append _ _
  | demux enabled => rw [Block.act_frame]
  | _ => exact List.prefix_refl _

/-- A counter changes by CNT_CLEAR, a soft reset, a delivery at the cap, an MTU write or a DEMUX step. -/
theorem Effect.cnt_cases (h : Effect p b i b') (changed : b'.cnt ≠ b.cnt) :
    isSoftReset i = true ∨ completes .cntClear b i ∨ ((∃ d, i = .rxDeliver d) ∧ b.bufCap ≤ b.sb.length) ∨
      (∃ d, i = .wrMtu d) ∨ (i = .demuxStep ∧ b.demuxEnabled p = true) := by
  cases h with
  | completed _ c b' r busy word own performed =>
    refine .inr (.inl ?_)
    by_cases clear : c = .cntClear
    · subst clear
      exact completes_of_word rfl busy word own
    · exact absurd ((performOf_txf_cnt performed).2 clear) changed
  | softReset d reset => exact .inl reset
  | delivered d =>
    refine .inr (.inr (.inl ⟨⟨d, rfl⟩, Nat.not_lt.mp fun below => changed ?_⟩))
    rw [Block.rxDeliver_of_lt d p below]
  | mtu d free legal => exact .inr (.inr (.inr (.inl ⟨d, rfl⟩)))
  | demux enabled => exact .inr (.inr (.inr (.inr ⟨rfl, enabled⟩)))
  | _ => exact absurd rfl changed

/-- EVQ grows at its end, but for EVQ_POP, EVQ_FLUSH and soft reset. -/
theorem Effect.evq_prefix_or (h : Effect p b i b') :
    b.evq <+: b'.evq ∨ (∃ d, i = .wrEvqPop d) ∨ completes .evqFlush b i ∨ isSoftReset i = true := by
  cases h with
  | completed _ c b' r busy word own performed =>
    by_cases flush : c = .evqFlush
    · subst flush
      exact .inr (.inr (.inl (completes_of_word rfl busy word own)))
    · left
      rw [Block.complete_evq, (performOf_writes performed).2.1 flush]
  | softReset d reset => exact .inr (.inr (.inr reset))
  | evqPop d r rest head => exact .inr (.inl ⟨d, rfl⟩)
  | demux enabled => exact .inl (b.evq_prefix_act p b.action)
  | _ => exact .inl (List.prefix_refl _)

/-- The word and everything a command reads stay while it is pending. -/
theorem Effect.inputs_of_busy (h : Effect p b i b') (before : b.busy = true) (after : b'.busy = true) :
    b'.pend = b.pend ∧ b'.mtu = b.mtu ∧ b'.txRunId = b.txRunId ∧ b'.txSeq = b.txSeq ∧ b'.txTotal = b.txTotal ∧
      b'.txPlen = b.txPlen ∧ b'.decLen = b.decLen ∧ b'.mem = b.mem := by
  cases h with
  | completed => cases after
  | softReset => cases after
  | accepted d free | mtu d free | txOperands _ _ _ _ _ free | decLen d free | txData d free | pay k d free | dec k d free =>
    exact absurd before (Bool.eq_false_iff.mp free)
  | demux enabled =>
    rw [Block.act_frame]
    exact ⟨rfl, rfl, rfl, rfl, rfl, rfl, rfl, rfl⟩
  | _ => exact ⟨rfl, rfl, rfl, rfl, rfl, rfl, rfl, rfl⟩

end

/-- Settles O26: TXPORT's step moves the head of TXF to the end of the wire; any other operation leaves the wire alone. -/
theorem transmitOrderIsKept : Obligations.TransmitOrderIsKept := by
  intro i s t h
  by_cases take : i = .txTake
  · subst take
    cases fifo : s.blk.txf with
    | nil =>
      rw [exec_txTake_nil fifo] at h
      cases h
      exact ⟨List.prefix_refl _, fun _ _ => fifo ▸ List.prefix_refl _⟩
    | cons x rest =>
      rw [exec_txTake_cons fifo] at h
      cases h
      exact ⟨List.prefix_append _ _, fun _ _ => by simp⟩
  · rw [exec_wire take h]
    exact ⟨List.prefix_refl _, fun noReset noFlush =>
      (List.prefix_append_right_inj _).mpr ((exec_effect h).txf_prefix take noReset noFlush)⟩

/-- Settles O56: the effects that change a counter. -/
theorem countersChangeOnlyByRule : Obligations.CountersChangeOnlyByRule := fun _ _ _ h => (exec_effect h).cnt_cases

/-- Settles O57: the head of a queue is the head of what it grows to. -/
theorem eventHeadIsStable : Obligations.EventHeadIsStable := by
  intro i s t r rest h queue
  refine (exec_effect h).evq_prefix_or.imp_left ?_
  rintro ⟨new, grown⟩
  rw [← grown, queue]
  rfl

/-- Settles O58: every effect on the inputs needs BUSY = 0 before it, or leaves it so. -/
theorem commandInputsStableWhileBusy : Obligations.CommandInputsStableWhileBusy := fun _ _ _ h => (exec_effect h).inputs_of_busy

end Sys2Proof.Machine

end

/-! SUPPORT. Proofs of the statements about the invariant (10_state.md R20, R51-R58, 44_demux.md R271): it holds at reset and every
effect of an operation keeps it. -/

section

/- One theorem after the other: each concurrent elaboration reserves a thread's stack of memory. -/
set_option Elab.async false

namespace Sys2Proof.Machine

/-! ## Reset (R60, R380, R381) -/

theorem Block.inv_reset {p : Build} (legal : p.Legal) : (Block.reset p).Inv p where
  mtuLegal := by
    rw [Block.reset_mtu_toNat legal]
    exact ⟨legal.1.1, Nat.le_refl _⟩
  sbBound := Nat.zero_le _
  evqBound := Nat.zero_le _
  txfBound := Nat.zero_le _
  decLenLegal := Nat.zero_le _
  memWf := .nil
  memInside := nofun
  events := nofun
  resFits := trivial
  resultOk := .inl rfl
  doneValid := nofun

/-- Settles O49: the queues are empty, no RAM is written, and MTU_MAX fits the MTU register. -/
theorem resetMeetsInvariant : Obligations.ResetMeetsInvariant := fun _ legal => ⟨legal, Block.inv_reset legal⟩

/-- A soft reset keeps the RAM and takes the power-on value everywhere else. -/
theorem Block.Inv.softReset {p : Build} {b : Block} (legal : p.Legal) (h : b.Inv p) : (b.softReset p).Inv p :=
  { Block.inv_reset legal with memWf := h.memWf, memInside := h.memInside }

/-! ## The lists of accepted messages (R210) -/

theorem kindList16_length_le {listMax : Nat} {v : Json} {l : List Half} (h : kindList16 listMax v = .ok l) :
    l.length ≤ listMax := by
  unfold kindList16 at h
  split at h
  · split at h
    · cases h
    · split_ifs at h with many inRange
      cases h
      rw [List.length_map]
      exact Nat.not_lt.mp many
  all_goals cases h

theorem field_eq_ok_iff {α : Type} {o : Members} {key : List Half} {kind : Json → Except Reason α} {a : α} :
    field o key kind = .ok a ↔ ∃ v, lookup o key = some v ∧ kind v = .ok a := by
  cases present : lookup o key with
  | none => simp [field_of_absent present]
  | some v => simp [field_of_present present]

theorem field_list_length_le {listMax : Nat} {o : Members} {key : List Half} {l : List Half}
    (h : field o key (kindList16 listMax) = .ok l) : l.length ≤ listMax := by
  obtain ⟨v, -, kind⟩ := field_eq_ok_iff.mp h
  exact kindList16_length_le kind

/-- The list of an accepted message is empty or a LIST16 field. -/
theorem parseFields_list_length_le {listMax : Nat} {m : Msg} {o : Members} {c : Control} (h : parseFields listMax m o = .ok c) :
    c.list.length ≤ listMax := by
  obtain ⟨-, -, -, perKind⟩ := messageRecognition
  obtain ⟨-, -, -, accepted⟩ := perKind listMax o
  obtain ⟨runId, -, fields⟩ := (accepted m c).mp h
  cases m with
  | sync => obtain ⟨x, y, z, -, -, -, rfl⟩ := fields; exact Nat.zero_le _
  | syncAck => obtain rfl := fields; exact Nat.zero_le _
  | burst => obtain ⟨l, hl, rfl⟩ := fields; exact field_list_length_le hl
  | report => obtain ⟨l, x, y, z, hl, -, -, -, rfl⟩ := fields; exact field_list_length_le hl
  | endMsg => obtain rfl := fields; exact Nat.zero_le _
  | finalMsg => obtain ⟨v, w, x, y, z, -, -, -, -, -, rfl⟩ := fields; exact Nat.zero_le _

theorem parseLine_list_length_le {listMax : Nat} {l : Bytes} {c : Control} (h : parseLine listMax l = .ok c) :
    c.list.length ≤ listMax := by
  obtain ⟨_, _, _, -, -, -, -, fields⟩ := parseLine_eq_ok_iff.mp h
  exact parseFields_list_length_le fields

/-! ## Completions (R303) -/

section
variable {p : Build} {b b' : Block}

/-- A frame FRAME_ENCODE builds has MTU bytes. -/
theorem Block.txFrame_length (lo : 14 ≤ b.mtu.toNat) : b.txFrame.length = b.mtu.toNat :=
  encodeFrame_length b.txRunId b.txSeq b.txTotal lo (b.mem.readBytes_length _ _)

theorem Block.Inv.performOf {c : Command} {r : ResultCode} (h : b.Inv p) (performed : performOf c p b = some (b', r)) :
    b'.Inv p := by
  cases c with
  | nop | illegal _ => cases performed; exact h
  | cntClear | crcInit | crcByte _ | crcBuf => cases performed; exact { h with }
  | bufFlush => cases performed; exact { h with sbBound := Nat.zero_le _ }
  | evqFlush => cases performed; exact { h with evqBound := Nat.zero_le _, events := nofun }
  | txFlush => cases performed; exact { h with txfBound := Nat.zero_le _ }
  | frameEncode =>
    simp only [Machine.performOf, performFrameEncode] at performed
    split_ifs at performed with size fits
    · cases performed
      exact h
    · cases performed
      have room := (Block.frameFits_eq_true_iff p b).mp fits
      have frame := Block.txFrame_length h.mtuLegal.1
      have lo := h.mtuLegal.1
      exact { h with txfBound := by rw [List.length_append, frame]; omega }
  | frameDecode =>
    simp only [Machine.performOf, performFrameDecode] at performed
    split at performed <;> cases performed <;> exact { h with resFits := trivial }
  | lineParse =>
    simp only [Machine.performOf, performLineParse] at performed
    split at performed
    · cases performed
      exact { h with resFits := parseLine_list_length_le ‹_› }
    · cases performed
      exact { h with resFits := trivial }

theorem Block.Inv.complete (h : b.Inv p) (w : Word) (r : ResultCode) : (b.complete w r).Inv p :=
  { h with resultOk := .inr ⟨w, r, rfl⟩, doneValid := fun _ => resultWord_valid w r }

/-! ## The windows (R71, R73) -/

/-- A window write inside one of the buffers. -/
theorem Block.Inv.windowWrite {base size : Nat} (h : b.Inv p) (ram : ∀ j < size, isRamAddr p (base + j)) (off : Nat)
    (d : Word) :
    ({ b with mem := windowWrite b.mem base size off d } : Block).Inv p := by
  have lane {m : Memory} (inside : ∀ c ∈ m, isRamAddr p c.1) (i : Nat) (x : Byte) :
      ∀ c ∈ windowWriteLane m base size i x, isRamAddr p c.1 := by
    intro c mem
    rcases windowWriteLane_mem m base size i x c mem with old | ⟨j, lt, addr⟩
    · exact inside c old
    · rw [addr]
      exact ram j lt
  exact { h with
    memWf := windowWrite_wf b.mem h.memWf base size off d
    memInside := lane (lane (lane (lane h.memInside _ _) _ _) _ _) _ _ }

/-! ## The StreamBuffer (R251, R271, R315) -/

theorem Block.Inv.rxDeliver (h : b.Inv p) (d : Byte) : (b.rxDeliver d p).Inv p := by
  have lo := h.mtuLegal.1
  refine { h with sbBound := ?_ }
  rw [Block.rxDeliver_sb, List.length_append, List.length_drop, List.length_singleton]
  simp only [Block.bufCap, Block.rxDeliver_mtu]
  omega

theorem Block.Inv.writeMtu {m : Half} (h : b.Inv p) (legal : ¬ (m.toNat < 14 ∨ p.mtuMax < m.toNat)) :
    ({ b with mtu := m }.trimTo (m.toNat * 150)).Inv p := by
  refine { h with mtuLegal := ⟨?_, ?_⟩, sbBound := ?_ }
  · exact Nat.not_lt.mp (not_or.mp legal).1
  · exact Nat.not_lt.mp (not_or.mp legal).2
  · rw [Block.trimTo_sb, List.length_drop]
    simp only [Block.bufCap, Block.trimTo_mtu]
    omega

/-! ## The demultiplexer (R262, R271) -/

/-- A candidate has the magic, so it never fails by it. -/
theorem classify_frameBad_ne_badMagic {mtu cap : Nat} {sb : Bytes} {e : DecodeError} (lo : 2 ≤ mtu)
    (action : classify mtu cap sb = .frameBad e) : e = .badLength ∨ e = .checksumMismatch := by
  obtain ⟨⟨rest, rfl⟩, whole, decoded⟩ := (classify_eq_ofDecode_iff (.error e)).mp action
  obtain ⟨n, rfl⟩ := Nat.exists_eq_add_of_le' lo
  have magic : [0x5A, 0xA5] <+: ([0x5A, 0xA5] ++ rest).take (n + 2) := ⟨rest.take n, rfl⟩
  rw [decodeFrame_of_magic magic] at decoded
  cases e with
  | badMagic => split_ifs at decoded <;> cases decoded
  | badLength => exact .inl rfl
  | checksumMismatch => exact .inr rfl

/-- Eviction keeps every bound. -/
theorem Block.Inv.evict (h : b.Inv p) (n : Nat) : (b.evict n).Inv p :=
  { h with sbBound := (List.drop_sublist n b.sb).length_le.trans h.sbBound }

/-- Emitting an event into a queue with room. -/
theorem Block.Inv.emit {r : Record} (h : b.Inv p) (room : b.evq.length < p.evqDepth) (event : r.isEvent p.listMax) :
    (b.emit r).Inv p :=
  { h with
    evqBound := by rw [Block.emit_evq, List.length_append]; exact room
    events := List.forall_mem_append.mpr ⟨h.events, List.forall_mem_singleton.mpr event⟩ }

theorem Block.Inv.demux (h : b.Inv p) (enabled : b.demuxEnabled p = true) : (b.act p b.action).Inv p := by
  obtain ⟨-, room, noWait⟩ := (Block.demuxEnabled_iff _ _).mp enabled
  cases action : b.action with
  | wait => exact absurd action noWait
  | noise | dead | full => exact { h.evict 1 with }
  | frameOk f => exact { (h.evict _).emit room (r := .frame f) trivial with }
  | frameBad e =>
    have event := classify_frameBad_ne_badMagic (Nat.le_trans (by decide) h.mtuLegal.1) action
    exact { (h.evict _).emit room (r := .frameError e) event with }
  | line k =>
    cases parsed : parseLine p.listMax (b.sb.take (k + 1)) with
    | ok c =>
      rw [Block.act_line_ok parsed]
      exact { (h.evict _).emit room (r := .control c) (parseLine_list_length_le parsed) with }
    | error r =>
      rw [Block.act_line_error parsed]
      exact { h.evict _ with }

/-! ## Every effect, every step -/

theorem Effect.inv {i : Instr} (legal : p.Legal) (h : b.Inv p) (effect : Effect p b i b') : b'.Inv p := by
  cases effect with
  | nothing => exact h
  | sticky _ k noNewDone => exact { h with doneValid := fun done => h.doneValid (noNewDone done) }
  | completed _ c b' r busy word own performed => exact (h.performOf performed).complete c.word r
  | accepted | enabled | irqEnabled | txOperands => exact { h with }
  | softReset => exact h.softReset legal
  | mtu d free legal => exact h.writeMtu legal
  | decLen d free legal => exact { h with decLenLegal := legal }
  | txData d free room =>
    exact { h with txfBound := by rw [List.length_append]; exact Nat.lt_of_le_of_ne h.txfBound room }
  | evqPop d r rest head =>
    have shorter : b.evq.tail = rest := by rw [head, List.tail_cons]
    refine { h with evqBound := ?_, events := fun x mem => h.events x (List.mem_of_mem_tail (shorter ▸ mem)) }
    rw [← shorter, List.length_tail]
    exact (Nat.sub_le _ _).trans h.evqBound
  | pay k d => exact h.windowWrite (fun j lt => .inl ⟨Nat.le_add_right _ _, Nat.add_lt_add_left lt _⟩) _ d
  | dec k d => exact h.windowWrite (fun j lt => .inr ⟨Nat.le_add_right _ _, Nat.add_lt_add_left lt _⟩) _ d
  | delivered d => exact h.rxDeliver d
  | taken x rest head =>
    have shorter : b.txf.tail = rest := by rw [head, List.tail_cons]
    refine { h with txfBound := ?_ }
    rw [← shorter, List.length_tail]
    exact (Nat.sub_le _ _).trans h.txfBound
  | demux enabled => exact h.demux enabled

end

theorem exec_inv {i : Instr} {s t : State} (h : s.Inv) (run : exec i s = .next t) : t.Inv := by
  obtain ⟨legal, inv⟩ := h
  rw [State.Inv, exec_build run]
  exact ⟨legal, (exec_effect run).inv legal inv⟩

/-- Settles O50: a step is idle or the operation at the head of the list. -/
theorem stepKeepsInvariant : Obligations.StepKeepsInvariant := by
  intro s t h run
  obtain ⟨onHead, idle⟩ := stepRunsDecodedOperation
  cases moves : s.moves with
  | nil =>
    rw [idle s moves] at run
    cases run
    exact h
  | cons c rest =>
    rw [onHead s c rest moves] at run
    exact exec_inv (s := { s with moves := rest }) h run

end Sys2Proof.Machine

end

/-! SUPPORT. Proofs of the statements that nothing stops the block (60_exceptions.md R358), of the ENGINE's step (45_host_commands.md
R303) and of what no read shows (10_state.md R56, R59). -/

section

/- One theorem after the other: each concurrent elaboration reserves a thread's stack of memory. -/
set_option Elab.async false

namespace Sys2Proof.Machine

/-! ## Nothing stops (R358, R359) -/

theorem step_exists_next (s : State) : ∃ t, step s = .next t := by
  obtain ⟨onHead, idle⟩ := stepRunsDecodedOperation
  cases moves : s.moves with
  | nil => exact ⟨s, idle s moves⟩
  | cons c rest =>
    rw [onHead s c rest moves]
    exact exec_exists_next _ _

theorem run_succ_of_next (M : Host.Core) {x y : M.State} (n : Nat) (h : M.step x = .next y) : M.run (n + 1) x = M.run n y := by
  rw [Host.Core.run, h]

theorem run_exists_next (n : Nat) (s : State) : ∃ t, core.run n s = .next t := by
  induction n generalizing s with
  | zero => exact ⟨s, rfl⟩
  | succ n ih =>
    obtain ⟨t, next⟩ := step_exists_next s
    obtain ⟨u, rest⟩ := ih t
    exact ⟨u, (run_succ_of_next core n next).trans rest⟩

/-- Settles O51: one step by `exec`, any number by induction. -/
theorem nothingStopsTheBlock : Obligations.NothingStopsTheBlock := ⟨exec_exists_next, fun s n => run_exists_next n s⟩

/-! ## The ENGINE (R303) -/

/-- Only FRAME_ENCODE can be held, and only while its frame does not fit (R180). -/
theorem performOf_eq_none_iff {c : Command} {p : Build} {b : Block} :
    performOf c p b = none ↔
      c = .frameEncode ∧ b.txPlen.toNat = b.mtu.toNat - 14 ∧ p.txFifoDepth - b.txf.length < b.mtu.toNat := by
  cases c with
  | frameEncode =>
    rw [← Block.plenOk_eq_true_iff, ← Nat.not_le, ← Block.frameFits_eq_true_iff]
    simp only [performOf, performFrameEncode]
    split_ifs with size fits <;> simp_all
  | frameDecode =>
    simp only [performOf, performFrameDecode]
    split <;> simp
  | lineParse =>
    simp only [performOf, performLineParse]
    split <;> simp
  | _ => exact iff_of_false nofun (fun h => nomatch h.1)

theorem ResultCode.code_le (r : ResultCode) : r.code.toNat ≤ 6 := by
  cases r <;> decide

/-- Settles O52: a command that is not held performs something, and completes the same way by either operation. -/
theorem engineCompletesPendingCommand : Obligations.EngineCompletesPendingCommand := by
  refine fun s => ⟨fun busy notHeld => ?_, fun off => ?_⟩
  · cases performed : performOf (decodeCommand s.blk.pend) s.build s.blk with
    | none => exact absurd (performOf_eq_none_iff.mp performed) notHeld
    | some q =>
      refine ⟨_, exec_completes ⟨busy, rfl, .inl rfl⟩ performed, exec_completes ⟨busy, rfl, .inr rfl⟩ performed, rfl, rfl,
        q.2.code, q.2.code_le, ?_⟩
      rw [(decodeCommand_spec s.blk.pend).2]
      rfl
  · rw [exec_engineComplete]
    rcases off with free | held
    · rw [exec_instr]
      exact onBlock_of_eq (b := s.blk) (by simp [completeWith, Block.pending, free])
    · exact exec_instr_held (performOf_eq_none_iff.mpr held)

/-! ## What no read shows (R56, R59) -/

section
variable {p : Build} {b : Block} {w : Word} {evq : List Record}

/-- The registers show the length of EVQ and no event. -/
theorem Block.readReg_hidden (len : evq.length = b.evq.length) (r : Reg) :
    ({ b with pend := w, evq := evq } : Block).readReg p r = b.readReg p r := by
  cases r with
  | status =>
    have evqNe : ({ b with pend := w, evq := evq } : Block).evqNe = b.evqNe := by simp only [Block.evqNe, len]
    have evqFull : ({ b with pend := w, evq := evq } : Block).evqFull p = b.evqFull p := by simp only [Block.evqFull, len]
    have enabled : ({ b with pend := w, evq := evq } : Block).demuxEnabled p = b.demuxEnabled p := by
      simp only [Block.demuxEnabled, len]
      rfl
    simp only [Block.readReg, Block.status, Block.liveBits, Block.demuxIdle, evqNe, evqFull, enabled]
    rfl
  | evqLevel => simp only [Block.readReg, len]
  | _ => rfl

end

/-- Settles O47: the registers show the length of EVQ, the EVT window its head, nothing else shows EVQ. -/
theorem pendAndQueuedEventsAreHidden : Obligations.PendAndQueuedEventsAreHidden := by
  intro p b w evq k len head
  have shown : ({ b with pend := w, evq := evq } : Block).evtHead = b.evtHead := by
    rw [Block.evtHead, Block.evtHead, List.headD_eq_head?_getD, List.headD_eq_head?_getD, head]
  unfold Block.readWord
  cases regionOf (4 * k.toNat) with
  | reg off =>
    dsimp only
    cases regAt off with
    | none => rfl
    | some r => exact Block.readReg_hidden len r
  | evt off => exact congrArg (render p.listMax · off) shown
  | _ => rfl

end Sys2Proof.Machine

end

/-! SUPPORT. The lexical elements of a line's body (43_control_line.md R202, R203): each parser reads a text of its production, and
every text of the production is read, with the value it denotes. -/

section

/- One theorem after the other: each concurrent elaboration reserves a thread's stack of memory. -/
set_option Elab.async false

namespace Sys2Proof.Machine

open Grammar

/-- Whatever `parse` accepts begins with a text of the production, and the rest is what it leaves. -/
def ReadsOnly {α : Type} (parse : Bytes → Option (α × Bytes)) (text : Bytes → α → Prop) : Prop :=
  ∀ s x r, parse s = some (x, r) → ∃ t, s = t ++ r ∧ text t x

/-! ## Whitespace -/

theorem ws_iff (s : Bytes) : Ws s ↔ ∀ b ∈ s, isWs b = true := by
  simp only [Ws, isWs_iff]

theorem ws_split (s : Bytes) : ∃ w, Ws w ∧ s = w ++ skipWs s := by
  induction s with
  | nil => exact ⟨[], nofun, rfl⟩
  | cons b s ih =>
    cases white : isWs b with
    | true =>
      obtain ⟨w, hw, split⟩ := ih
      refine ⟨b :: w, List.forall_mem_cons.mpr ⟨(isWs_iff b).mp white, hw⟩, ?_⟩
      rw [skipWs, if_pos white, List.cons_append, ← split]
    | false => exact ⟨[], nofun, by rw [skipWs, white]; rfl⟩

theorem skipWs_cons {b : Byte} (dark : isWs b = false) (s : Bytes) : skipWs (b :: s) = b :: s := by
  rw [skipWs, dark]
  rfl

theorem skipWs_ws_append {w : Bytes} (hw : Ws w) (s : Bytes) : skipWs (w ++ s) = skipWs s :=
  skipWs_append ((ws_iff w).mp hw) s

theorem skipWs_eq_nil_iff (s : Bytes) : skipWs s = [] ↔ Ws s := by
  constructor
  · intro empty
    obtain ⟨w, hw, split⟩ := ws_split s
    rw [empty, List.append_nil] at split
    rwa [split]
  · intro hw
    rw [← List.append_nil s, skipWs_ws_append hw]
    rfl

/-! ## Digits -/

theorem digitOf_eq_some_iff {b : Byte} {d : Nat} : digitOf b = some d ↔ d ≤ 9 ∧ b = BitVec.ofNat 8 (0x30 + d) := by
  rw [digitOf, ← BitVec.toNat_inj, BitVec.toNat_ofNat]
  split_ifs with digit
  · rw [Option.some.injEq]
    omega
  · refine iff_of_false nofun ?_
    omega

/-- `*DIGIT` ends at a byte that is no digit. -/
theorem takeDigits_cons_of_none {b : Byte} (h : digitOf b = none) (s : Bytes) : takeDigits (b :: s) = ([], b :: s) := by
  rw [takeDigits, h]

theorem takeDigits_cons_of_some {b : Byte} {d : Nat} (h : digitOf b = some d) (s : Bytes) :
    takeDigits (b :: s) = (d :: (takeDigits s).1, (takeDigits s).2) := by
  rw [takeDigits, h]

theorem digits_cons_iff {t : Bytes} {d : Nat} {ds : List Nat} :
    Digits t (d :: ds) ↔ ∃ b u, t = b :: u ∧ digitOf b = some d ∧ Digits u ds := by
  simp only [Digits, List.forall_mem_cons, List.map_cons, digitOf_eq_some_iff]
  constructor
  · rintro ⟨⟨le, les⟩, rfl⟩
    exact ⟨_, _, rfl, ⟨le, rfl⟩, les, rfl⟩
  · rintro ⟨_, _, rfl, ⟨le, rfl⟩, les, rfl⟩
    exact ⟨⟨le, les⟩, rfl⟩

theorem digits_nil_iff {t : Bytes} : Digits t [] ↔ t = [] := by
  simp [Digits]

theorem takeDigits_split (s : Bytes) : ∃ t, s = t ++ (takeDigits s).2 ∧ Digits t (takeDigits s).1 := by
  induction s with
  | nil => exact ⟨[], rfl, digits_nil_iff.mpr rfl⟩
  | cons b s ih =>
    cases digit : digitOf b with
    | none =>
      rw [takeDigits_cons_of_none digit]
      exact ⟨[], rfl, digits_nil_iff.mpr rfl⟩
    | some d =>
      obtain ⟨t, split, text⟩ := ih
      rw [takeDigits_cons_of_some digit]
      exact ⟨b :: t, congrArg (b :: ·) split, digits_cons_iff.mpr ⟨b, t, rfl, digit, text⟩⟩

theorem takeDigits_append {t r : Bytes} {ds : List Nat} (text : Digits t ds) (ends : takeDigits r = ([], r)) :
    takeDigits (t ++ r) = (ds, r) := by
  induction ds generalizing t with
  | nil =>
    obtain rfl := digits_nil_iff.mp text
    exact ends
  | cons d ds ih =>
    obtain ⟨b, u, rfl, digit, text⟩ := digits_cons_iff.mp text
    rw [List.cons_append, takeDigits_cons_of_some digit, ih text]

theorem takeDigits1_eq_some_iff {s r : Bytes} {ds : List Nat} :
    takeDigits1 s = some (ds, r) ↔ ds ≠ [] ∧ takeDigits s = (ds, r) := by
  unfold takeDigits1
  rcases takeDigits s with ⟨_ | ⟨d, ds'⟩, r'⟩
  · refine iff_of_false nofun ?_
    rintro ⟨nonempty, same⟩
    exact nonempty (congrArg Prod.fst same).symm
  · rw [Option.some.injEq]
    refine ⟨?_, And.right⟩
    rintro ⟨rfl, rfl⟩
    exact ⟨nofun, rfl⟩

theorem takeDigits1_readsOnly : ReadsOnly takeDigits1 fun t ds => ds ≠ [] ∧ Digits t ds := by
  intro s ds r h
  obtain ⟨nonempty, taken⟩ := takeDigits1_eq_some_iff.mp h
  obtain ⟨t, split, text⟩ := takeDigits_split s
  rw [taken] at split text
  exact ⟨t, split, nonempty, text⟩

theorem takeDigits1_append {t r : Bytes} {ds : List Nat} (nonempty : ds ≠ []) (text : Digits t ds)
    (ends : takeDigits r = ([], r)) :
    takeDigits1 (t ++ r) = some (ds, r) :=
  takeDigits1_eq_some_iff.mpr ⟨nonempty, takeDigits_append text ends⟩

/-! ## Numbers -/

/-- A byte that may follow a value: whitespace, a comma or a closing bracket. -/
def isValueEnd (b : Byte) : Bool := isWs b || b == 0x2C || b == 0x5D || b == 0x7D

/-- What may follow a value: nothing, or such a byte. -/
def EndsValue (s : Bytes) : Prop := ∀ b ∈ s.head?, isValueEnd b = true

theorem EndsValue.ws_append {w s : Bytes} (hw : Ws w) (h : EndsValue s) : EndsValue (w ++ s) := by
  cases w with
  | nil => exact h
  | cons b w =>
    rintro _ ⟨⟩
    rw [isValueEnd, (isWs_iff b).mpr (hw b List.mem_cons_self)]
    rfl

/-- Such a byte continues no number. -/
theorem continues_no_number : ∀ b : Byte, isValueEnd b = true → digitOf b = none ∧ b ≠ 0x2E ∧ b ≠ 0x65 ∧ b ≠ 0x45 := by
  decide

section
variable {s t r : Bytes} {ds : List Nat} {x neg : Bool}

theorem EndsValue.takeDigits_eq (h : EndsValue r) : takeDigits r = ([], r) := by
  cases r with
  | nil => rfl
  | cons b r => exact takeDigits_cons_of_none (continues_no_number b (h b rfl)).1 r

theorem parseInt_readsOnly : ReadsOnly parseInt IntText := by
  intro s ds r h
  cases s with
  | nil => cases h
  | cons b s =>
    rw [parseInt] at h
    split_ifs at h with zero
    · cases h
      exact ⟨[b], rfl, zero ▸ ⟨by decide, rfl⟩, .inl rfl⟩
    · obtain ⟨t, split, nonempty, text⟩ := takeDigits1_readsOnly _ _ _ h
      refine ⟨t, split, text, .inr ?_⟩
      obtain ⟨d, ds, rfl⟩ := List.exists_cons_of_ne_nil nonempty
      obtain ⟨c, u, rfl, digit, -⟩ := digits_cons_iff.mp text
      obtain ⟨rfl, -⟩ := List.cons.inj split
      obtain ⟨-, byte⟩ := digitOf_eq_some_iff.mp digit
      refine ⟨d, ds, rfl, Nat.one_le_iff_ne_zero.mpr ?_⟩
      rintro rfl
      exact zero byte

theorem parseInt_append (text : IntText t ds) (ends : takeDigits r = ([], r)) : parseInt (t ++ r) = some (ds, r) := by
  obtain ⟨digits, rfl | ⟨d, ds, rfl, pos⟩⟩ := text
  · obtain ⟨-, rfl⟩ := digits
    rfl
  · have taken := takeDigits1_append (List.cons_ne_nil d ds) digits ends
    obtain ⟨b, u, rfl, digit, -⟩ := digits_cons_iff.mp digits
    obtain ⟨le, rfl⟩ := digitOf_eq_some_iff.mp digit
    rw [List.cons_append, parseInt, if_neg, ← List.cons_append, taken]
    rw [← BitVec.toNat_inj, BitVec.toNat_ofNat]
    change ¬ (48 + d) % 2 ^ 8 = 48
    omega

theorem parseFrac_readsOnly : ReadsOnly parseFrac FracText := by
  intro s ds r h
  cases s with
  | nil => cases h; exact ⟨[], rfl, .inl ⟨rfl, rfl⟩⟩
  | cons b s =>
    rw [parseFrac] at h
    split_ifs at h with dot
    · obtain ⟨t, rfl, nonempty, text⟩ := takeDigits1_readsOnly _ _ _ h
      exact ⟨b :: t, rfl, .inr ⟨t, dot ▸ rfl, nonempty, text⟩⟩
    · cases h
      exact ⟨[], rfl, .inl ⟨rfl, rfl⟩⟩

theorem parseFrac_append (text : FracText t ds) (noDot : ∀ b ∈ r.head?, b ≠ 0x2E) (ends : takeDigits r = ([], r)) :
    parseFrac (t ++ r) = some (ds, r) := by
  obtain ⟨rfl, rfl⟩ | ⟨t, rfl, nonempty, digits⟩ := text
  · cases r with
    | nil => rfl
    | cons b r => rw [List.nil_append, parseFrac, if_neg (noDot b rfl)]
  · rw [List.cons_append, parseFrac, if_pos rfl, takeDigits1_append nonempty digits ends]

theorem skipSign_split (s : Bytes) : ∃ sign, s = sign ++ skipSign s ∧ (sign = [] ∨ sign = [0x2D] ∨ sign = [0x2B]) := by
  cases s with
  | nil => exact ⟨[], rfl, .inl rfl⟩
  | cons b s =>
    rw [skipSign]
    split_ifs with isSign
    · refine ⟨[b], rfl, .inr ?_⟩
      rcases isSign with rfl | rfl
      exacts [.inr rfl, .inl rfl]
    · exact ⟨[], rfl, .inl rfl⟩

theorem skipSign_append {sign : Bytes} (hSign : sign = [] ∨ sign = [0x2D] ∨ sign = [0x2B]) (nonempty : ds ≠ [])
    (digits : Digits t ds) : skipSign (sign ++ (t ++ r)) = t ++ r := by
  obtain ⟨d, ds, rfl⟩ := List.exists_cons_of_ne_nil nonempty
  obtain ⟨b, u, rfl, digit, -⟩ := digits_cons_iff.mp digits
  rcases hSign with rfl | rfl | rfl
  · rw [List.nil_append, List.cons_append, skipSign, if_neg]
    rintro (rfl | rfl)
    · cases digit
    · cases digit
  · rfl
  · rfl

theorem parseExp_readsOnly : ReadsOnly parseExp ExpText := by
  intro s x r h
  cases s with
  | nil => cases h; exact ⟨[], rfl, .inl ⟨rfl, rfl⟩⟩
  | cons b s =>
    rw [parseExp] at h
    split_ifs at h with isExp
    · cases taken : takeDigits1 (skipSign s) with
      | none => rw [taken] at h; cases h
      | some q =>
        rw [taken] at h
        cases h
        obtain ⟨t, split, nonempty, text⟩ := takeDigits1_readsOnly _ _ _ taken
        obtain ⟨sign, whole, hSign⟩ := skipSign_split s
        refine ⟨b :: (sign ++ t), ?_, .inr ⟨b, sign, t, q.1, rfl, isExp, hSign, nonempty, text, rfl⟩⟩
        rw [whole, split, List.cons_append, List.append_assoc]
    · cases h
      exact ⟨[], rfl, .inl ⟨rfl, rfl⟩⟩

theorem parseExp_append (text : ExpText t x) (ends : EndsValue r) : parseExp (t ++ r) = some (x, r) := by
  obtain ⟨rfl, rfl⟩ | ⟨e, sign, t, ds, rfl, isExp, hSign, nonempty, digits, rfl⟩ := text
  · cases r with
    | nil => rfl
    | cons b r =>
      obtain ⟨-, -, noE, noE'⟩ := continues_no_number b (ends b rfl)
      rw [List.nil_append, parseExp, if_neg (not_or.mpr ⟨noE, noE'⟩)]
  · rw [List.cons_append, List.append_assoc, parseExp, if_pos isExp, skipSign_append hSign nonempty digits,
      takeDigits1_append nonempty digits ends.takeDigits_eq]

/-- `parseUnsigned` is its three parts in order. -/
theorem parseUnsigned_eq_some_iff {tok : NumTok} :
    parseUnsigned neg s = some (tok, r) ↔
      ∃ s₁ s₂, parseInt s = some (tok.int, s₁) ∧ parseFrac s₁ = some (tok.frac, s₂) ∧ parseExp s₂ = some (tok.exp, r) ∧
        tok.neg = neg := by
  unfold parseUnsigned
  constructor
  · intro h
    split at h
    · cases h
    · split at h
      · cases h
      · split at h
        · cases h
        · cases h
          exact ⟨_, _, ‹_›, ‹_›, ‹_›, rfl⟩
  · rintro ⟨s₁, s₂, int, frac, exp, rfl⟩
    simp only [int, frac, exp]

theorem parseUnsigned_readsOnly (neg : Bool) :
    ReadsOnly (parseUnsigned neg) fun t tok =>
      ∃ i f x, t = i ++ f ++ x ∧ IntText i tok.int ∧ FracText f tok.frac ∧ ExpText x tok.exp ∧ tok.neg = neg := by
  intro s tok r h
  obtain ⟨s₁, s₂, int, frac, exp, sign⟩ := parseUnsigned_eq_some_iff.mp h
  obtain ⟨i, rfl, intText⟩ := parseInt_readsOnly _ _ _ int
  obtain ⟨f, rfl, fracText⟩ := parseFrac_readsOnly _ _ _ frac
  obtain ⟨x, rfl, expText⟩ := parseExp_readsOnly _ _ _ exp
  exact ⟨i ++ f ++ x, by simp only [List.append_assoc], i, f, x, rfl, intText, fracText, expText, sign⟩

/-- An exponent part and what ends a value begin with no digit and no dot. -/
theorem expText_append_head (text : ExpText t x) (ends : EndsValue r) :
    takeDigits (t ++ r) = ([], t ++ r) ∧ ∀ b ∈ (t ++ r).head?, b ≠ 0x2E := by
  obtain ⟨rfl, -⟩ | ⟨e, sign, t, ds, rfl, isExp, -⟩ := text
  · exact ⟨ends.takeDigits_eq, fun b head => (continues_no_number b (ends b head)).2.1⟩
  · have noDigit : digitOf e = none ∧ e ≠ 0x2E := by
      rcases isExp with rfl | rfl <;> decide
    refine ⟨takeDigits_cons_of_none noDigit.1 _, ?_⟩
    rintro _ ⟨⟩
    exact noDigit.2

theorem fracText_append_head (text : FracText t ds) (ends : takeDigits r = ([], r)) : takeDigits (t ++ r) = ([], t ++ r) := by
  obtain ⟨rfl, -⟩ | ⟨t, rfl, -⟩ := text
  · exact ends
  · exact takeDigits_cons_of_none (by decide) _

theorem parseUnsigned_append {i f e : Bytes} {tok : NumTok} (int : IntText i tok.int) (frac : FracText f tok.frac)
    (exp : ExpText e tok.exp) (ends : EndsValue r) : parseUnsigned tok.neg (i ++ (f ++ (e ++ r))) = some (tok, r) := by
  obtain ⟨noDigit, noDot⟩ := expText_append_head exp ends
  exact parseUnsigned_eq_some_iff.mpr ⟨_, _, parseInt_append int (fracText_append_head frac noDigit),
    parseFrac_append frac noDot noDigit, parseExp_append exp ends, rfl⟩

theorem parseNumber_readsOnly : ReadsOnly parseNumber NumText := by
  intro s tok r h
  cases s with
  | nil => cases h
  | cons b s =>
    rw [parseNumber] at h
    split_ifs at h with minus
    · obtain ⟨_, rfl, i, f, x, rfl, int, frac, exp, neg⟩ := parseUnsigned_readsOnly _ _ _ _ h
      exact ⟨b :: (i ++ f ++ x), rfl, i, f, x, by simp [neg, minus], int, frac, exp⟩
    · obtain ⟨_, split, i, f, x, rfl, int, frac, exp, neg⟩ := parseUnsigned_readsOnly _ _ _ _ h
      exact ⟨i ++ f ++ x, split, i, f, x, by simp [neg], int, frac, exp⟩

/-- The first byte of an integer part is a digit. -/
theorem intText_head (text : IntText t ds) : ∃ b u d, t = b :: u ∧ digitOf b = some d := by
  obtain ⟨digits, rfl | ⟨d, ds, rfl, -⟩⟩ := text
  all_goals
    obtain ⟨b, u, rfl, digit, -⟩ := digits_cons_iff.mp digits
    exact ⟨b, u, _, rfl, digit⟩

theorem parseNumber_append {tok : NumTok} (text : NumText t tok) (ends : EndsValue r) : parseNumber (t ++ r) = some (tok, r) := by
  obtain ⟨i, f, x, rfl, int, frac, exp⟩ := text
  have unsigned := parseUnsigned_append int frac exp ends
  cases sign : tok.neg with
  | true =>
    rw [sign] at unsigned
    simpa [parseNumber] using unsigned
  | false =>
    obtain ⟨b, u, d, rfl, digit⟩ := intText_head int
    have noMinus : b ≠ 0x2D := by
      rintro rfl
      cases digit
    rw [sign] at unsigned
    simp only [List.cons_append] at unsigned
    simp only [Bool.false_eq_true, if_false, List.nil_append, List.append_assoc, List.cons_append]
    rw [parseNumber, if_neg noMinus, unsigned]

end

end Sys2Proof.Machine

end

/-! SUPPORT. Strings and values of a line's body (43_control_line.md R202, R203, R205, R213), and the proof that the parser accepts
exactly the grammar: what a parser reads is a text of its production at any fuel, and a text is read when the fuel is at least
its length. -/

section

/- One theorem after the other: each concurrent elaboration reserves a thread's stack of memory. -/
set_option Elab.async false

namespace Sys2Proof.Machine

open Grammar

/-! ## Strings (R203) -/

theorem escapeOf_eq_some_iff {e : Byte} {u : Half} : escapeOf e = some u ↔ (e, u) ∈ escapes := by
  constructor
  · intro h
    unfold escapeOf at h
    split_ifs at h <;> cases h <;> simp [escapes, *]
  · intro h
    simp only [escapes, List.mem_cons, Prod.mk.injEq, List.not_mem_nil, or_false] at h
    rcases h with ⟨rfl, rfl⟩ | ⟨rfl, rfl⟩ | ⟨rfl, rfl⟩ | ⟨rfl, rfl⟩ | ⟨rfl, rfl⟩ | ⟨rfl, rfl⟩ | ⟨rfl, rfl⟩ | ⟨rfl, rfl⟩
    all_goals rfl

theorem hexOf_eq_some_iff {b : Byte} {v : Nat} : hexOf b = some v ↔ HexDigit b v := by
  unfold hexOf HexDigit
  simp only [← BitVec.toNat_inj, BitVec.toNat_ofNat]
  split_ifs
  case neg => exact iff_of_false nofun (by omega)
  all_goals rw [Option.some.injEq]; omega

theorem hex4_eq_some_iff {a b c d : Byte} {u : Half} :
    hex4 a b c d = some u ↔
      ∃ x y z w, HexDigit a x ∧ HexDigit b y ∧ HexDigit c z ∧ HexDigit d w ∧
        u = BitVec.ofNat 16 (4096 * x + 256 * y + 16 * z + w) := by
  have value (x y z w : Nat) : ((x * 16 + y) * 16 + z) * 16 + w = 4096 * x + 256 * y + 16 * z + w := by omega
  simp only [← hexOf_eq_some_iff, hex4]
  constructor
  · intro h
    split at h
    · cases h
      exact ⟨_, _, _, _, ‹_›, ‹_›, ‹_›, ‹_›, congrArg _ (value ..)⟩
    · cases h
  · rintro ⟨x, y, z, w, hx, hy, hz, hw, rfl⟩
    simp only [hx, hy, hz, hw, value]

theorem isUnescaped_iff (b : Byte) :
    isUnescaped b = true ↔
      (0x20 ≤ b.toNat ∧ b.toNat ≤ 0x21) ∨ (0x23 ≤ b.toNat ∧ b.toNat ≤ 0x5B) ∨ (0x5D ≤ b.toNat ∧ b.toNat ≤ 0x7E) := by
  simp [isUnescaped, or_assoc]

theorem consUnit_eq_some_iff {u : Half} {o : Option (List Half × Bytes)} {us : List Half} {r : Bytes} :
    consUnit u o = some (us, r) ↔ ∃ us', o = some (us', r) ∧ us = u :: us' := by
  cases o with
  | none => simp [consUnit]
  | some q => simp [consUnit, Prod.ext_iff, eq_comm (b := us), and_comm]

section
variable {s t r : Bytes} {us : List Half}

/-- One character, the text `c` of the unit `u`, before characters that are read. -/
theorem chars_of_consUnit {c : Bytes} {u : Half} (char : ∀ t us, Chars t us → Chars (c ++ t) (u :: us))
    (rest : ∀ {us r}, parseChars s = some (us, r) → ∃ t, s = t ++ 0x22 :: r ∧ Chars t us)
    (h : consUnit u (parseChars s) = some (us, r)) : ∃ t, c ++ s = t ++ 0x22 :: r ∧ Chars t us := by
  obtain ⟨us, parsed, rfl⟩ := consUnit_eq_some_iff.mp h
  obtain ⟨t, rfl, text⟩ := rest parsed
  exact ⟨c ++ t, (List.append_assoc ..).symm, char t us text⟩

/-- Characters up to a closing quote. -/
theorem chars_of_parseChars (h : parseChars s = some (us, r)) : ∃ t, s = t ++ 0x22 :: r ∧ Chars t us := by
  fun_induction parseChars s generalizing us r with
  | case2 s => cases h; exact ⟨[], rfl, .nil⟩
  | case4 a b c d s u units _ ih =>
    obtain ⟨x, y, z, w, hx, hy, hz, hw, rfl⟩ := hex4_eq_some_iff.mp units
    exact chars_of_consUnit (c := [0x5C, 0x75, a, b, c, d]) (fun t us => .unicode a b c d x y z w t us hx hy hz hw) ih h
  | case7 e s _ u unit _ ih =>
    exact chars_of_consUnit (c := [0x5C, e]) (fun t us => .escape e u t us (escapeOf_eq_some_iff.mp unit)) ih h
  | case9 b s _ _ unescaped ih =>
    exact chars_of_consUnit (c := [b]) (fun t us => .unescaped b t us ((isUnescaped_iff b).mp unescaped)) ih h
  | _ => cases h

theorem parseChars_quote (s : Bytes) : parseChars (0x22 :: s) = some ([], s) := by
  rw [parseChars.eq_def]
  rfl

theorem parseChars_escape {e : Byte} {u : Half} (unit : escapeOf e = some u) (s : Bytes) :
    parseChars (0x5C :: e :: s) = consUnit u (parseChars s) := by
  have other : e ≠ 0x75 := by
    rintro rfl
    cases unit
  rw [parseChars.eq_def]
  dsimp only
  rw [if_neg (by decide), if_pos rfl, if_neg other, unit]

theorem parseChars_unicode {a b c d : Byte} {u : Half} (unit : hex4 a b c d = some u) (s : Bytes) :
    parseChars (0x5C :: 0x75 :: a :: b :: c :: d :: s) = consUnit u (parseChars s) := by
  rw [parseChars.eq_def]
  dsimp only
  rw [if_neg (by decide), if_pos rfl, if_pos rfl, unit]

theorem parseChars_unescaped {b : Byte} (unescaped : isUnescaped b = true) (s : Bytes) :
    parseChars (b :: s) = consUnit (b.setWidth 16) (parseChars s) := by
  have other : b ≠ 0x22 ∧ b ≠ 0x5C := by
    constructor <;> (rintro rfl; cases unescaped)
  rw [parseChars.eq_def]
  dsimp only
  rw [if_neg other.1, if_neg other.2, if_pos unescaped]

theorem parseChars_append (text : Chars t us) (r : Bytes) : parseChars (t ++ 0x22 :: r) = some (us, r) := by
  induction text with
  | nil => exact parseChars_quote r
  | unescaped b t us range _ ih => exact (parseChars_unescaped ((isUnescaped_iff b).mpr range) _).trans (congrArg (consUnit _) ih)
  | escape e u t us mem _ ih => exact (parseChars_escape (escapeOf_eq_some_iff.mpr mem) _).trans (congrArg (consUnit _) ih)
  | unicode a b c d x y z w t us hx hy hz hw _ ih =>
    have unit := hex4_eq_some_iff.mpr ⟨x, y, z, w, hx, hy, hz, hw, rfl⟩
    exact (parseChars_unicode unit _).trans (congrArg (consUnit _) ih)

theorem parseString_readsOnly : ReadsOnly parseString StrText := by
  intro s us r h
  cases s with
  | nil => cases h
  | cons b s =>
    rw [parseString] at h
    split_ifs at h with quote
    obtain ⟨t, rfl, text⟩ := chars_of_parseChars h
    exact ⟨b :: (t ++ [0x22]), by simp, t, by rw [quote], text⟩

theorem parseString_append (text : StrText t us) (r : Bytes) : parseString (t ++ r) = some (us, r) := by
  obtain ⟨t, rfl, text⟩ := text
  rw [List.cons_append, parseString, if_pos rfl, List.append_assoc]
  exact parseChars_append text r

end

/-! ## One call of each parser, by the calls it makes -/

theorem expect_eq_some_iff {letters s r : Bytes} : expect letters s = some r ↔ s = letters ++ r := by
  induction letters generalizing s with
  | nil => simp [expect]
  | cons e es ih =>
    cases s with
    | nil => simp [expect]
    | cons b s =>
      rw [expect]
      split_ifs with same
      · simp [ih, same]
      · simp [Ne.symm same]

theorem parseLiteral_eq_some_iff {letters s r : Bytes} {v w : Json} :
    parseLiteral letters v s = some (w, r) ↔ s = letters ++ r ∧ w = v := by
  rw [parseLiteral, ← expect_eq_some_iff]
  cases expect letters s <;> simp [eq_comm, and_comm]

theorem parseKey_eq_some_iff {s r : Bytes} {k : List Half} :
    parseKey s = some (k, r) ↔ ∃ s₁ s₂, parseString s = some (k, s₁) ∧ skipWs s₁ = 0x3A :: s₂ ∧ r = skipWs s₂ := by
  unfold parseKey
  cases parseString s with
  | none => simp
  | some q =>
    cases white : skipWs q.2 with
    | nil => grind
    | cons b s₂ =>
      by_cases colon : b = 0x3A <;> grind

/-- The first bytes by which `parseValue` chooses. -/
def valueMarks : Bytes := [0x7B, 0x5B, 0x22, 0x74, 0x66, 0x6E]

/-- One call of `parseValue` with fuel left: `ReadsValue n s v r` when it reads `v` from `s` and leaves `r`. -/
inductive ReadsValue (n : Nat) : Bytes → Json → Bytes → Prop where
  | emptyObject (s r : Bytes) : skipWs s = 0x7D :: r → ReadsValue n (0x7B :: s) (.obj []) r
  | object (s : Bytes) (c : Byte) (t : Bytes) (ms : Members) (r : Bytes) :
      skipWs s = c :: t → c ≠ 0x7D → parseMembers n (c :: t) = some (ms, r) → ReadsValue n (0x7B :: s) (.obj ms) r
  | emptyArray (s r : Bytes) : skipWs s = 0x5D :: r → ReadsValue n (0x5B :: s) (.arr []) r
  | array (s : Bytes) (c : Byte) (t : Bytes) (es : List Json) (r : Bytes) :
      skipWs s = c :: t → c ≠ 0x5D → parseElems n (c :: t) = some (es, r) → ReadsValue n (0x5B :: s) (.arr es) r
  | string (s : Bytes) (us : List Half) (r : Bytes) :
      parseChars s = some (us, r) → ReadsValue n (0x22 :: s) (.str us) r
  | litTrue (r : Bytes) : ReadsValue n (0x74 :: ([0x72, 0x75, 0x65] ++ r)) (.bool true) r
  | litFalse (r : Bytes) : ReadsValue n (0x66 :: ([0x61, 0x6C, 0x73, 0x65] ++ r)) (.bool false) r
  | litNull (r : Bytes) : ReadsValue n (0x6E :: ([0x75, 0x6C, 0x6C] ++ r)) .null r
  | number (b : Byte) (s : Bytes) (t : NumTok) (r : Bytes) :
      b ∉ valueMarks → parseNumber (b :: s) = some (t, r) → ReadsValue n (b :: s) (.num t) r

section
variable {n : Nat} {s r : Bytes} {v : Json}

/-- One branch of `parseValue` per constructor. -/
theorem readsValue_of_parseValue (h : parseValue (n + 1) s = some (v, r)) : ReadsValue n s v r := by
  cases s with
  | nil => cases h
  | cons b s =>
    rw [parseValue] at h
    split_ifs at h with object array string litTrue litFalse litNull
    · subst object
      split at h
      · cases h
      · split_ifs at h with close
        · cases h; subst close; exact .emptyObject s _ ‹_›
        · split at h <;> cases h
          exact .object s _ _ _ _ ‹_› close ‹_›
    · subst array
      split at h
      · cases h
      · split_ifs at h with close
        · cases h; subst close; exact .emptyArray s _ ‹_›
        · split at h <;> cases h
          exact .array s _ _ _ _ ‹_› close ‹_›
    · subst string
      split at h <;> cases h
      exact .string s _ _ ‹_›
    · subst litTrue
      obtain ⟨rfl, rfl⟩ := parseLiteral_eq_some_iff.mp h
      exact .litTrue r
    · subst litFalse
      obtain ⟨rfl, rfl⟩ := parseLiteral_eq_some_iff.mp h
      exact .litFalse r
    · subst litNull
      obtain ⟨rfl, rfl⟩ := parseLiteral_eq_some_iff.mp h
      exact .litNull r
    · split at h <;> cases h
      refine .number b s _ _ ?_ ‹_›
      simp only [valueMarks, List.mem_cons, List.not_mem_nil, or_false, not_or]
      exact ⟨object, array, string, litTrue, litFalse, litNull⟩

theorem parseValue_of_readsValue (h : ReadsValue n s v r) : parseValue (n + 1) s = some (v, r) := by
  cases h with
  | emptyObject s r white => simp [parseValue, white]
  | object s c t ms r white more members => rw [parseValue, if_pos rfl, white]; simp only [if_neg more, members]
  | emptyArray s r white => simp [parseValue, white]
  | array s c t es r white more elems =>
    rw [parseValue, if_neg (by decide), if_pos rfl, white]
    simp only [if_neg more, elems]
  | string s us r chars => simp [parseValue, chars]
  | litTrue r | litFalse r | litNull r => simp [parseValue, parseLiteral_eq_some_iff]
  | number b s t r other number =>
    simp only [valueMarks, List.mem_cons, List.not_mem_nil, or_false, not_or] at other
    simp only [parseValue, other, number, if_false]

theorem parseValue_succ_iff : parseValue (n + 1) s = some (v, r) ↔ ReadsValue n s v r :=
  ⟨readsValue_of_parseValue, parseValue_of_readsValue⟩

end

theorem parseElems_succ_iff {n : Nat} {s r : Bytes} {vs : List Json} :
    parseElems (n + 1) s = some (vs, r) ↔
      ∃ v s₁ c s₂, parseValue n s = some (v, s₁) ∧ skipWs s₁ = c :: s₂ ∧
        ((c = 0x5D ∧ vs = [v] ∧ r = s₂) ∨
          (c = 0x2C ∧ ∃ vs', parseElems n (skipWs s₂) = some (vs', r) ∧ vs = v :: vs')) := by
  rw [parseElems]
  cases parseValue n s with
  | none => simp
  | some q =>
    cases white : skipWs q.2 with
    | nil => grind
    | cons c s₂ =>
      by_cases close : c = 0x5D
      · grind
      · by_cases comma : c = 0x2C <;> grind

theorem parseMembers_succ_iff {n : Nat} {s r : Bytes} {ms : Members} :
    parseMembers (n + 1) s = some (ms, r) ↔
      ∃ k s₁ v s₂ c s₃, parseKey s = some (k, s₁) ∧ parseValue n s₁ = some (v, s₂) ∧ skipWs s₂ = c :: s₃ ∧
        ((c = 0x7D ∧ ms = [(k, v)] ∧ r = s₃) ∨
          (c = 0x2C ∧ ∃ ms', parseMembers n (skipWs s₃) = some (ms', r) ∧ ms = (k, v) :: ms')) := by
  rw [parseMembers]
  cases parseKey s with
  | none => simp
  | some key =>
    cases found : parseValue n key.2 with
    | none => grind
    | some q =>
      cases white : skipWs q.2 with
      | nil => grind
      | cons c s₃ =>
        by_cases close : c = 0x7D
        · grind
        · by_cases comma : c = 0x2C <;> grind

/-! ## What the parsers read is a text of the grammar -/

section
variable {n : Nat}

theorem parseValue_readsOnly (members : ReadsOnly (parseMembers n) MembersText) (elems : ReadsOnly (parseElems n) ElemsText) :
    ReadsOnly (parseValue (n + 1)) ValueText := by
  intro s v r h
  cases parseValue_succ_iff.mp h with
  | emptyObject s r white =>
    obtain ⟨w, hw, split⟩ := ws_split s
    exact ⟨0x7B :: (w ++ [0x7D]), by rw [split, white]; simp, .emptyObject w hw⟩
  | object s c t ms r white _ parsed =>
    obtain ⟨w, hw, split⟩ := ws_split s
    obtain ⟨u, whole, text⟩ := members _ _ _ parsed
    exact ⟨0x7B :: (w ++ u), by rw [split, white, whole]; simp, .object w u ms hw text⟩
  | emptyArray s r white =>
    obtain ⟨w, hw, split⟩ := ws_split s
    exact ⟨0x5B :: (w ++ [0x5D]), by rw [split, white]; simp, .emptyArray w hw⟩
  | array s c t es r white _ parsed =>
    obtain ⟨w, hw, split⟩ := ws_split s
    obtain ⟨u, whole, text⟩ := elems _ _ _ parsed
    exact ⟨0x5B :: (w ++ u), by rw [split, white, whole]; simp, .array w u es hw text⟩
  | string s us r chars =>
    obtain ⟨t, rfl, text⟩ := chars_of_parseChars chars
    exact ⟨0x22 :: (t ++ [0x22]), by simp, .string _ us ⟨t, rfl, text⟩⟩
  | litTrue r => exact ⟨_, rfl, .litTrue⟩
  | litFalse r => exact ⟨_, rfl, .litFalse⟩
  | litNull r => exact ⟨_, rfl, .litNull⟩
  | number b s tok r _ parsed =>
    obtain ⟨t, split, text⟩ := parseNumber_readsOnly _ _ _ parsed
    exact ⟨t, split, .number t tok text⟩

theorem parseElems_readsOnly (value : ReadsOnly (parseValue n) ValueText) (elems : ReadsOnly (parseElems n) ElemsText) :
    ReadsOnly (parseElems (n + 1)) ElemsText := by
  intro s vs r h
  obtain ⟨v, s₁, c, s₂, parsed, white, next⟩ := parseElems_succ_iff.mp h
  obtain ⟨t, rfl, text⟩ := value _ _ _ parsed
  obtain ⟨w₁, hw₁, split₁⟩ := ws_split s₁
  rcases next with ⟨rfl, rfl, rfl⟩ | ⟨rfl, vs, more, rfl⟩
  · exact ⟨t ++ w₁ ++ [0x5D], by rw [split₁, white]; simp, .last t w₁ v text hw₁⟩
  · obtain ⟨w₂, hw₂, split₂⟩ := ws_split s₂
    obtain ⟨u, whole, rest⟩ := elems _ _ _ more
    exact ⟨t ++ w₁ ++ 0x2C :: (w₂ ++ u), by rw [split₁, white, split₂, whole]; simp, .more t w₁ w₂ u v vs text hw₁ hw₂ rest⟩

theorem parseMembers_readsOnly (value : ReadsOnly (parseValue n) ValueText) (members : ReadsOnly (parseMembers n) MembersText) :
    ReadsOnly (parseMembers (n + 1)) MembersText := by
  intro s ms r h
  obtain ⟨k, s₁, v, s₂, c, s₃, key, parsed, white, next⟩ := parseMembers_succ_iff.mp h
  obtain ⟨s₄, s₅, name, colon, rfl⟩ := parseKey_eq_some_iff.mp key
  obtain ⟨q, rfl, nameText⟩ := parseString_readsOnly _ _ _ name
  obtain ⟨w₁, hw₁, split₁⟩ := ws_split s₄
  obtain ⟨w₂, hw₂, split₂⟩ := ws_split s₅
  obtain ⟨t, after, text⟩ := value _ _ _ parsed
  obtain ⟨w₃, hw₃, split₃⟩ := ws_split s₂
  have member : MemberText (q ++ w₁ ++ 0x3A :: (w₂ ++ t)) k v := .mk q w₁ w₂ t k v nameText hw₁ hw₂ text
  have front : q ++ s₄ = (q ++ w₁ ++ 0x3A :: (w₂ ++ t)) ++ s₂ := by
    rw [split₁, colon, split₂, after]
    simp
  rcases next with ⟨rfl, rfl, rfl⟩ | ⟨rfl, ms, more, rfl⟩
  · exact ⟨_, by rw [front, split₃, white]; simp, .last _ w₃ k v member hw₃⟩
  · obtain ⟨w₄, hw₄, split₄⟩ := ws_split s₃
    obtain ⟨u, whole, rest⟩ := members _ _ _ more
    exact ⟨_, by rw [front, split₃, white, split₄, whole]; simp, .more _ w₃ w₄ u k v ms member hw₃ hw₄ rest⟩

end

/-- By recursion on the fuel, the three parsers together. -/
theorem parsers_readOnly (n : Nat) :
    ReadsOnly (parseValue n) ValueText ∧ ReadsOnly (parseElems n) ElemsText ∧ ReadsOnly (parseMembers n) MembersText := by
  induction n with
  | zero => exact ⟨fun _ _ _ h => (nomatch h), fun _ _ _ h => (nomatch h), fun _ _ _ h => (nomatch h)⟩
  | succ n ih =>
    obtain ⟨value, elems, members⟩ := ih
    exact ⟨parseValue_readsOnly members elems, parseElems_readsOnly value elems, parseMembers_readsOnly value members⟩

/-! ## Every text of the grammar is read -/

/-- `parse` reads every text of the production of at most `n` bytes, whatever allowed bytes follow it. -/
def ReadsUpTo {α : Type} (n : Nat) (parse : Bytes → Option (α × Bytes)) (text : Bytes → α → Prop) (follow : Bytes → Prop) : Prop :=
  ∀ t x r, text t x → t.length ≤ n → follow r → parse (t ++ r) = some (x, r)

/-- Anything may follow a text that ends with its closing bracket. -/
def Anything (_ : Bytes) : Prop := True

/-- The first byte of a number. -/
theorem number_mark : ∀ b : Byte, b = 0x2D ∨ digitOf b ≠ none → isWs b = false ∧ b ≠ 0x5D ∧ b ∉ valueMarks := by
  decide

section
variable {s t r : Bytes} {v : Json} {vs : List Json} {ms : Members} {k : List Half} {n : Nat}

theorem numText_head {tok : NumTok} (text : NumText t tok) : ∃ b u, t = b :: u ∧ (b = 0x2D ∨ digitOf b ≠ none) := by
  obtain ⟨i, f, x, rfl, int, -, -⟩ := text
  obtain ⟨b, u, d, rfl, digit⟩ := intText_head int
  cases tok.neg with
  | true => exact ⟨0x2D, _, rfl, .inl rfl⟩
  | false => exact ⟨b, _, rfl, .inr (by simp [digit])⟩

/-- A value begins with a byte that is no whitespace and closes no array. -/
theorem valueText_head (text : ValueText t v) : ∃ b u, t = b :: u ∧ isWs b = false ∧ b ≠ 0x5D := by
  cases text with
  | number t tok text =>
    obtain ⟨b, u, rfl, mark⟩ := numText_head text
    obtain ⟨dark, noClose, -⟩ := number_mark b mark
    exact ⟨b, u, rfl, dark, noClose⟩
  | string t us text =>
    obtain ⟨t, rfl, -⟩ := text
    exact ⟨_, _, rfl, by decide, by decide⟩
  | _ => exact ⟨_, _, rfl, by decide, by decide⟩

theorem elemsText_head (text : ElemsText t vs) : ∃ b u, t = b :: u ∧ isWs b = false ∧ b ≠ 0x5D := by
  cases text with
  | last s w v value | more s w _ _ v _ value =>
    obtain ⟨b, u, rfl, dark, noClose⟩ := valueText_head value
    exact ⟨b, _, rfl, dark, noClose⟩

theorem membersText_head (text : MembersText t ms) : ∃ u, t = 0x22 :: u := by
  cases text with
  | last s w k v member | more s w _ _ k v _ member =>
    obtain ⟨_, _, _, _, _, _, ⟨q, rfl, -⟩⟩ := member
    exact ⟨_, rfl⟩

theorem skipWs_valueText (text : ValueText t v) (r : Bytes) : skipWs (t ++ r) = t ++ r := by
  obtain ⟨b, u, rfl, dark, -⟩ := valueText_head text
  exact skipWs_cons dark _

/-- What stands behind a value, whitespace and a closing byte or a comma. -/
theorem endsValue_ws_append {w : Bytes} {b : Byte} (hw : Ws w) (h : isValueEnd b = true) (r : Bytes) : EndsValue (w ++ b :: r) :=
  EndsValue.ws_append hw fun _ head => by cases head; exact h

theorem parseValue_readsUpTo (elems : ReadsUpTo n (parseElems n) ElemsText Anything)
    (members : ReadsUpTo n (parseMembers n) MembersText Anything) :
    ReadsUpTo (n + 1) (parseValue (n + 1)) ValueText EndsValue := by
  intro t v r text len ends
  refine parseValue_succ_iff.mpr ?_
  cases text with
  | litTrue => exact .litTrue r
  | litFalse => exact .litFalse r
  | litNull => exact .litNull r
  | number t tok text =>
    have parsed := parseNumber_append text ends
    obtain ⟨b, u, rfl, mark⟩ := numText_head text
    exact .number b (u ++ r) tok r (number_mark b mark).2.2 parsed
  | string t us text =>
    obtain ⟨t, rfl, chars⟩ := text
    exact .string (t ++ [0x22] ++ r) us r (by simpa using parseChars_append chars r)
  | emptyArray w hw => exact .emptyArray (w ++ [0x5D] ++ r) r (by rw [List.append_assoc, skipWs_ws_append hw]; rfl)
  | emptyObject w hw => exact .emptyObject (w ++ [0x7D] ++ r) r (by rw [List.append_assoc, skipWs_ws_append hw]; rfl)
  | array w s vs hw text =>
    have short : s.length ≤ n := by
      simp only [List.length_cons, List.length_append] at len
      omega
    have parsed := elems s vs r text short trivial
    obtain ⟨b, u, rfl, dark, noClose⟩ := elemsText_head text
    exact .array (w ++ (b :: u) ++ r) b (u ++ r) vs r
      (by rw [List.append_assoc, skipWs_ws_append hw]; exact skipWs_cons dark _) noClose parsed
  | object w s ms hw text =>
    have short : s.length ≤ n := by
      simp only [List.length_cons, List.length_append] at len
      omega
    have parsed := members s ms r text short trivial
    obtain ⟨u, rfl⟩ := membersText_head text
    exact .object (w ++ (0x22 :: u) ++ r) 0x22 (u ++ r) ms r (by rw [List.append_assoc, skipWs_ws_append hw]; rfl) (by decide)
      parsed

theorem parseElems_readsUpTo (value : ReadsUpTo n (parseValue n) ValueText EndsValue)
    (elems : ReadsUpTo n (parseElems n) ElemsText Anything) : ReadsUpTo (n + 1) (parseElems (n + 1)) ElemsText Anything := by
  intro t vs r text len _
  refine parseElems_succ_iff.mpr ?_
  cases text with
  | last s w v text hw =>
    simp only [List.length_append, List.length_cons] at len
    refine ⟨v, w ++ 0x5D :: r, 0x5D, r, ?_, skipWs_ws_append hw _, .inl ⟨rfl, rfl, rfl⟩⟩
    rw [List.append_assoc, List.append_assoc]
    exact value s v _ text (by omega) (endsValue_ws_append hw (by decide) r)
  | more s w₁ w₂ u v vs text hw₁ hw₂ rest =>
    simp only [List.length_append, List.length_cons] at len
    refine ⟨v, w₁ ++ 0x2C :: (w₂ ++ u ++ r), 0x2C, w₂ ++ u ++ r, ?_, skipWs_ws_append hw₁ _, .inr ⟨rfl, vs, ?_, rfl⟩⟩
    · rw [List.append_assoc, List.append_assoc]
      exact value s v _ text (by omega) (endsValue_ws_append hw₁ (by decide) _)
    · obtain ⟨b, x, rfl, dark, -⟩ := elemsText_head rest
      rw [List.append_assoc, skipWs_ws_append hw₂, List.cons_append, skipWs_cons dark]
      exact elems _ vs r rest (by omega) trivial

/-- A member's key, its colon and the whitespace around it. -/
theorem parseKey_append {w₁ w₂ : Bytes} (name : StrText s k) (hw₁ : Ws w₁) (hw₂ : Ws w₂) (text : ValueText t v) (r : Bytes) :
    parseKey (s ++ w₁ ++ 0x3A :: (w₂ ++ t) ++ r) = some (k, t ++ r) := by
  refine parseKey_eq_some_iff.mpr ⟨w₁ ++ 0x3A :: (w₂ ++ t ++ r), w₂ ++ t ++ r, ?_, skipWs_ws_append hw₁ _, ?_⟩
  · rw [List.append_assoc, List.append_assoc]
    exact parseString_append name _
  · rw [List.append_assoc, skipWs_ws_append hw₂, skipWs_valueText text]

theorem parseMembers_readsUpTo (value : ReadsUpTo n (parseValue n) ValueText EndsValue)
    (members : ReadsUpTo n (parseMembers n) MembersText Anything) :
    ReadsUpTo (n + 1) (parseMembers (n + 1)) MembersText Anything := by
  intro t ms r text len _
  refine parseMembers_succ_iff.mpr ?_
  cases text with
  | last s w k v member hw =>
    obtain ⟨q, w₁, w₂, t, _, _, name, hw₁, hw₂, text⟩ := member
    simp only [List.length_append, List.length_cons] at len
    refine ⟨k, t ++ (w ++ 0x7D :: r), v, w ++ 0x7D :: r, 0x7D, r, ?_, ?_, skipWs_ws_append hw _, .inl ⟨rfl, rfl, rfl⟩⟩
    · rw [← parseKey_append name hw₁ hw₂ text]
      simp
    · exact value t v _ text (by omega) (endsValue_ws_append hw (by decide) r)
  | more s w w' u k v ms member hw hw' rest =>
    obtain ⟨q, w₁, w₂, t, _, _, name, hw₁, hw₂, text⟩ := member
    simp only [List.length_append, List.length_cons] at len
    refine ⟨k, t ++ (w ++ 0x2C :: (w' ++ u ++ r)), v, w ++ 0x2C :: (w' ++ u ++ r), 0x2C, w' ++ u ++ r, ?_, ?_,
      skipWs_ws_append hw _, .inr ⟨rfl, ms, ?_, rfl⟩⟩
    · rw [← parseKey_append name hw₁ hw₂ text]
      simp
    · exact value t v _ text (by omega) (endsValue_ws_append hw (by decide) _)
    · obtain ⟨x, rfl⟩ := membersText_head rest
      rw [List.append_assoc, skipWs_ws_append hw', List.cons_append, skipWs_cons (by decide)]
      exact members _ ms r rest (by omega) trivial

/-- No text of a production is empty. -/
theorem parsers_readUpTo (n : Nat) :
    ReadsUpTo n (parseValue n) ValueText EndsValue ∧ ReadsUpTo n (parseElems n) ElemsText Anything ∧
      ReadsUpTo n (parseMembers n) MembersText Anything := by
  induction n with
  | zero =>
    refine ⟨fun t v r text len _ => ?_, fun t vs r text len _ => ?_, fun t ms r text len _ => ?_⟩
    · obtain ⟨b, u, rfl, -⟩ := valueText_head text
      cases len
    · obtain ⟨b, u, rfl, -⟩ := elemsText_head text
      cases len
    · obtain ⟨u, rfl⟩ := membersText_head text
      cases len
  | succ n ih =>
    obtain ⟨value, elems, members⟩ := ih
    exact ⟨parseValue_readsUpTo elems members, parseElems_readsUpTo value elems, parseMembers_readsUpTo value members⟩

end

/-- Settles O18: the parser reads an object between whitespace, and its fuel exceeds the body's length. -/
theorem parserAcceptsExactlyTheGrammar : Obligations.ParserAcceptsExactlyTheGrammar := by
  intro body ms
  rw [parseBody_eq_some_iff]
  constructor
  · rintro ⟨r, parsed, white⟩
    obtain ⟨w₁, hw₁, split⟩ := ws_split body
    obtain ⟨t, whole, text⟩ := (parsers_readOnly _).1 _ _ _ parsed
    exact ⟨w₁, t, r, by rw [List.append_assoc, ← whole, ← split], hw₁, text, (skipWs_eq_nil_iff r).mp white⟩
  · rintro ⟨w₁, t, w₂, rfl, hw₁, text, hw₂⟩
    refine ⟨w₂, ?_, (skipWs_eq_nil_iff w₂).mpr hw₂⟩
    rw [List.append_assoc, skipWs_ws_append hw₁, skipWs_valueText text]
    refine (parsers_readUpTo _).1 t _ w₂ text ?_ ?_
    · simp only [List.length_append]
      omega
    · rw [← List.append_nil w₂]
      exact EndsValue.ws_append hw₂ nofun

end Sys2Proof.Machine

end

/-! SUPPORT. Proofs of the statements about repeated keys (43_control_line.md R205) and about the first bytes of frames and lines
(42_frame_codec.md R184, 43_control_line.md R219, R220). -/

section

/- One theorem after the other: each concurrent elaboration reserves a thread's stack of memory. -/
set_option Elab.async false

namespace Sys2Proof.Machine

open Grammar

/-! ## Keys (R205) -/

theorem lookup_cons (k : List Half) (v : Json) (ms : Members) (name : List Half) :
    lookup ((k, v) :: ms) name = (lookup ms name).or (if k = name then some v else none) := by
  rw [lookup]
  cases lookup ms name <;> rfl

theorem lookup_append (ms ms' : Members) (name : List Half) : lookup (ms ++ ms') name = (lookup ms' name).or (lookup ms name) := by
  induction ms with
  | nil => rw [List.nil_append, lookup, Option.or_none]
  | cons m ms ih => rw [List.cons_append, lookup_cons, lookup_cons, ih, Option.or_assoc]

theorem lookup_eq_none_iff {ms : Members} {name : List Half} : lookup ms name = none ↔ ∀ m ∈ ms, m.1 ≠ name := by
  induction ms with
  | nil => simp [lookup]
  | cons m ms ih => rw [lookup_cons, Option.or_eq_none_iff, ih, List.forall_mem_cons, and_comm]; simp

/-- Settles O20: behind the other members, the last one answers for its key and for no other. -/
theorem lastOccurrenceOfKeyWins : Obligations.LastOccurrenceOfKeyWins := by
  refine ⟨fun ms k v => ?_, fun ms k k' v other => ?_, fun ms k => lookup_eq_none_iff⟩
  · rw [lookup_append, lookup_cons, if_pos rfl]
    rfl
  · rw [lookup_append, lookup_cons, if_neg other]
    rfl

/-! ## First bytes (R184, R219, R220) -/

/-- A body of the grammar begins with whitespace or with the brace of its object. -/
theorem lineBody_head {body : Bytes} {ms : Members} (h : LineBody body ms) :
    ∃ b rest, body = b :: rest ∧ (b = 0x7B ∨ b = 0x20 ∨ b = 0x09 ∨ b = 0x0D) := by
  obtain ⟨w₁, t, w₂, rfl, hw₁, text, -⟩ := h
  cases w₁ with
  | cons b w => exact ⟨b, _, rfl, .inr (hw₁ b List.mem_cons_self)⟩
  | nil =>
    cases text with
    | emptyObject | object => exact ⟨0x7B, _, rfl, .inl rfl⟩

/-- What is cut as a line is one, within the alphabet. -/
theorem take_of_classify_line {mtu cap k : Nat} {sb : Bytes} (action : classify mtu cap sb = .line k) :
    ∃ body, sb.take (k + 1) = 0x7B :: body ++ [lf] ∧ ∀ b ∈ 0x7B :: body, inAlphabet b = true := by
  obtain ⟨body, rest, rfl, rfl, within⟩ := classify_eq_line_iff.mp action
  refine ⟨body, ?_, List.forall_mem_cons.mpr ⟨by decide, within⟩⟩
  have split : 0x7B :: (body ++ lf :: rest) = (0x7B :: body ++ [lf]) ++ rest := by simp
  rw [split]
  exact List.take_left' (by simp)

/-- Settles O24: a frame's first byte is the magic's, an accepted line's the grammar's; a cut line passes the first two checks. -/
theorem linesAndFramesDoNotCollide : Obligations.LinesAndFramesDoNotCollide := by
  refine ⟨fun _ _ _ _ _ => rfl, fun listMax l c accepted => ?_, fun mtu cap k listMax sb action => ?_⟩
  · obtain ⟨body, o, m, rfl, -, object, -⟩ := parseLine_eq_ok_iff.mp accepted
    obtain ⟨b, rest, rfl, first⟩ := lineBody_head ((parserAcceptsExactlyTheGrammar body o).mp object)
    exact ⟨b, rest ++ [lf], rfl, first⟩
  · obtain ⟨body, cut, within⟩ := take_of_classify_line action
    have reasons := parseLine_failsByText within listMax
    have whole : (classify mtu cap sb).consumes mtu ≤ sb.length := classify_consumes_le
    rw [action, Action.consumes] at whole
    have front : sb.head? = some 0x7B := by
      obtain ⟨body, rest, rfl, -⟩ := classify_eq_line_iff.mp action
      rfl
    refine ⟨Nat.succ_le_succ (classify_line_pos action), whole, front, ?_, ?_⟩
    · rw [cut]
      exact fun failed => reasons _ failed
    · rw [cut]
      exact fun failed => reasons _ failed

end Sys2Proof.Machine

end

/-! SUPPORT. Proof of the statement about canonical lines (43_control_line.md R217): the text of a canonical line is a text of the
grammar, within the line alphabet, for an object whose members are the message's fields. -/

section

/- One theorem after the other: each concurrent elaboration reserves a thread's stack of memory. -/
set_option Elab.async false

namespace Sys2Proof.Machine

open Grammar Script

/-- `t` is a text of the value `v` within the line alphabet. -/
structure CanonicalText (t : Bytes) (v : Json) : Prop where
  text : ValueText t v
  within : ∀ b ∈ t, inAlphabet b = true

/-! ## Numbers -/

/-- The digits of a number in shortest decimal. -/
def decimalDigits (n : Nat) : List Nat := if n < 10 then [n] else decimalDigits (n / 10) ++ [n % 10]

theorem decimalDigits_of_lt {n : Nat} (small : n < 10) : decimalDigits n = [n] := by
  rw [decimalDigits, if_pos small]

theorem decimalDigits_of_le {n : Nat} (large : 10 ≤ n) : decimalDigits n = decimalDigits (n / 10) ++ [n % 10] := by
  rw [decimalDigits, if_neg large.not_gt]

theorem decimalDigits_le (n : Nat) : ∀ d ∈ decimalDigits n, d ≤ 9 := by
  induction n using Nat.strong_induction_on with
  | _ n ih =>
    rcases Nat.lt_or_ge n 10 with small | large
    · rw [decimalDigits_of_lt small, List.forall_mem_singleton]
      omega
    · rw [decimalDigits_of_le large, List.forall_mem_append, List.forall_mem_singleton]
      exact ⟨ih _ (by omega), by omega⟩

theorem decimalDigits_lead {n : Nat} (pos : 1 ≤ n) : ∃ d r, decimalDigits n = d :: r ∧ 1 ≤ d := by
  induction n using Nat.strong_induction_on with
  | _ n ih =>
    rcases Nat.lt_or_ge n 10 with small | large
    · exact ⟨n, [], decimalDigits_of_lt small, pos⟩
    · obtain ⟨d, r, digits, pos⟩ := ih (n / 10) (by omega) (by omega)
      exact ⟨d, r ++ [n % 10], by rw [decimalDigits_of_le large, digits]; rfl, pos⟩

theorem digitsValue_append (ds : List Nat) (d : Nat) : digitsValue (ds ++ [d]) = 10 * digitsValue ds + d := by
  rw [digitsValue, List.foldl_append]
  rfl

theorem digitsValue_decimalDigits (n : Nat) : digitsValue (decimalDigits n) = n := by
  induction n using Nat.strong_induction_on with
  | _ n ih =>
    rcases Nat.lt_or_ge n 10 with small | large
    · rw [decimalDigits_of_lt small]
      simp [digitsValue]
    · rw [decimalDigits_of_le large, digitsValue_append, ih _ (by omega)]
      omega

theorem digitChar_toNat : ∀ d < 10, BitVec.ofNat 8 d.digitChar.toNat = BitVec.ofNat 8 (0x30 + d) := by
  decide

theorem decimal_eq_map (n : Nat) : decimal n = (decimalDigits n).map fun d => BitVec.ofNat 8 (0x30 + d) := by
  induction n using Nat.strong_induction_on with
  | _ n ih =>
    rcases Nat.lt_or_ge n 10 with small | large
    · rw [decimalDigits_of_lt small, decimal, Nat.toDigits_of_lt_base small, List.map_singleton, List.map_singleton,
        digitChar_toNat n small]
    · have lead : decimal n = decimal (n / 10) ++ [BitVec.ofNat 8 (n % 10).digitChar.toNat] := by
        rw [decimal, decimal, Nat.toDigits_of_base_le (by decide) large, List.map_append, List.map_singleton]
      rw [lead, ih _ (by omega), decimalDigits_of_le large, List.map_append, List.map_singleton,
        digitChar_toNat _ (by omega)]

theorem digits_within {t : Bytes} {ds : List Nat} (h : Digits t ds) : ∀ b ∈ t, inAlphabet b = true := by
  obtain ⟨le, rfl⟩ := h
  rintro b mem
  obtain ⟨d, hd, rfl⟩ := List.mem_map.mp mem
  have small := le d hd
  interval_cases d <;> decide

theorem decimal_digits (n : Nat) : Digits (decimal n) (decimalDigits n) := ⟨decimalDigits_le n, decimal_eq_map n⟩

theorem decimal_intText (n : Nat) : IntText (decimal n) (decimalDigits n) := by
  refine ⟨decimal_digits n, ?_⟩
  rcases n.eq_zero_or_pos with rfl | pos
  · exact .inl (decimalDigits_of_lt (by decide))
  · exact .inr (decimalDigits_lead pos)

/-- The token of a number in shortest decimal. -/
def decimalTok (n : Nat) : NumTok := ⟨false, decimalDigits n, [], false⟩

theorem decimalTok_intForm (n : Nat) : (decimalTok n).intForm = true := rfl

theorem canonicalText_decimal (n : Nat) : CanonicalText (decimal n) (.num (decimalTok n)) where
  text := .number _ _ ⟨decimal n, [], [], by simp [decimalTok], decimal_intText n, .inl ⟨rfl, rfl⟩, .inl ⟨rfl, rfl⟩⟩
  within := digits_within (decimal_digits n)

theorem boundedInt_decimal {n bound : Nat} (le : n ≤ bound) : boundedInt bound (.num (decimalTok n)) = .ok n := by
  rw [boundedInt_num (decimalTok_intForm n), decimalTok, digitsValue_decimalDigits, if_pos le]

theorem kindU16_decimal (x : Half) : kindU16 (.num (decimalTok x.toNat)) = .ok x := by
  rw [kindU16, boundedInt_decimal (Nat.le_of_lt_succ x.isLt)]
  simp [Except.map]

theorem kindU32_decimal (x : Word) : kindU32 (.num (decimalTok x.toNat)) = .ok x := by
  rw [kindU32, boundedInt_decimal (Nat.le_of_lt_succ x.isLt)]
  simp [Except.map]

/-- A 32-bit slot that holds a 16-bit field. -/
theorem kindU16_decimal_slot {x : Word} (le : x.toNat ≤ 65535) :
    kindU16 (.num (decimalTok x.toNat)) = .ok (x.setWidth 16) ∧ (x.setWidth 16).setWidth 32 = x := by
  have small : (x.setWidth 16).toNat = x.toNat := by
    rw [BitVec.toNat_setWidth, Nat.mod_eq_of_lt (by omega)]
  refine ⟨?_, BitVec.eq_of_toNat_eq ?_⟩
  · rw [← small]
    exact kindU16_decimal _
  · rw [BitVec.toNat_setWidth, small, Nat.mod_eq_of_lt x.isLt]

/-! ## Percentages (R214) -/

/-- The token of a percentage with a fraction. -/
def percentTok (int : Nat) (frac : List Nat) : NumTok := ⟨false, decimalDigits int, frac, false⟩

theorem canonicalText_percent {cp : Nat} {frac : List Nat} (h : isFraction cp frac) (int : Nat) :
    CanonicalText (percent int frac) (.num (percentTok int frac)) := by
  obtain ⟨nonempty, le, -⟩ := h
  have digits : Digits (frac.map fun d => BitVec.ofNat 8 (0x30 + d)) frac := ⟨le, rfl⟩
  refine ⟨.number _ _ ⟨decimal int, _, [], by simp [percent, percentTok], decimal_intText int, .inr ⟨_, rfl, nonempty, digits⟩,
    .inl ⟨rfl, rfl⟩⟩, ?_⟩
  exact List.forall_mem_append.mpr ⟨digits_within (decimal_digits int),
    List.forall_mem_cons.mpr ⟨by decide, digits_within digits⟩⟩

theorem kindPct_percent {x : Word} {frac : List Nat} (h : isFraction x.toNat frac) :
    kindPct (.num (percentTok (x.toNat / 100) frac)) = .ok x := by
  obtain ⟨-, -, hundredths⟩ := h
  have value : lossCp (percentTok (x.toNat / 100) frac) = x.toNat := by
    rw [lossCp, percentTok, digitsValue_decimalDigits]
    dsimp only
    omega
  rw [kindPct_num rfl, value, if_pos (Nat.le_of_lt_succ x.isLt), BitVec.ofNat_toNat, BitVec.setWidth_eq]

/-! ## Lists (R210) -/

/-- The value of a list of sequence numbers. -/
def listValues (l : List Half) : List Json := (l.map fun x => decimalTok x.toNat).map .num

theorem elemsText_listTail (a : Half) (l : List Half) : ElemsText (listTail (a :: l)) (listValues (a :: l)) := by
  induction l generalizing a with
  | nil =>
    have last := ElemsText.last (decimal a.toNat) [] _ (canonicalText_decimal _).text nofun
    rwa [List.append_nil] at last
  | cons b l ih =>
    have more := ElemsText.more (decimal a.toNat) [] [] _ _ _ (canonicalText_decimal _).text nofun nofun (ih b)
    rwa [List.append_nil, List.nil_append] at more

theorem listTail_within (l : List Half) : ∀ b ∈ listTail l, inAlphabet b = true := by
  fun_induction listTail l with
  | case1 => decide
  | case2 a => exact List.forall_mem_append.mpr ⟨(canonicalText_decimal _).within, by decide⟩
  | case3 a b l ih =>
    exact List.forall_mem_append.mpr ⟨(canonicalText_decimal _).within, List.forall_mem_cons.mpr ⟨by decide, ih⟩⟩

theorem canonicalText_list (l : List Half) : CanonicalText (0x5B :: listTail l) (.arr (listValues l)) where
  text := by
    cases l with
    | nil => exact .emptyArray [] nofun
    | cons a l => exact .array [] _ _ nofun (elemsText_listTail a l)
  within := List.forall_mem_cons.mpr ⟨by decide, listTail_within l⟩

theorem kindList16_list {listMax : Nat} {l : List Half} (le : l.length ≤ listMax) :
    kindList16 listMax (.arr (listValues l)) = .ok l := by
  have forms : ∀ t ∈ l.map fun x => decimalTok x.toNat, t.intForm = true := by
    simp [decimalTok_intForm]
  have ranges : ∀ t ∈ l.map fun x => decimalTok x.toNat, digitsValue t.int ≤ 65535 := by
    simp only [List.forall_mem_map, decimalTok, digitsValue_decimalDigits]
    exact fun x _ => Nat.le_of_lt_succ x.isLt
  rw [listValues, kindList16_ints forms, if_neg (by rw [List.length_map]; exact le.not_gt), if_pos ranges]
  simp [decimalTok, digitsValue_decimalDigits, Function.comp_def]

/-! ## Names -/

/-- The unit is a byte that a string may hold unescaped. -/
def isPlainUnit (u : Half) : Bool := isUnescaped (u.setWidth 8) && (u.setWidth 8).setWidth 16 == u

/-- A name of such units. -/
def isPlain (name : List Half) : Bool := name.all isPlainUnit

theorem isPlain_iff (name : List Half) :
    isPlain name = true ↔ ∀ u ∈ name, isUnescaped (u.setWidth 8) = true ∧ (u.setWidth 8).setWidth 16 = u := by
  simp [isPlain, isPlainUnit]

theorem chars_of_isPlain {name : List Half} (plain : isPlain name = true) : Chars (name.map (·.setWidth 8)) name := by
  rw [isPlain_iff] at plain
  induction name with
  | nil => exact .nil
  | cons u name ih =>
    obtain ⟨⟨unescaped, same⟩, rest⟩ := List.forall_mem_cons.mp plain
    have chars := Chars.unescaped _ _ _ ((isUnescaped_iff _).mp unescaped) (ih rest)
    rwa [same] at chars

theorem quoted_strText {name : List Half} (plain : isPlain name = true) : StrText (quoted name) name := ⟨_, rfl, chars_of_isPlain plain⟩

theorem inAlphabet_of_isUnescaped : ∀ b : Byte, isUnescaped b = true → inAlphabet b = true := by
  decide

theorem quoted_within {name : List Half} (plain : isPlain name = true) : ∀ b ∈ quoted name, inAlphabet b = true := by
  refine List.forall_mem_cons.mpr ⟨by decide, List.forall_mem_append.mpr ⟨?_, by decide⟩⟩
  rintro b mem
  obtain ⟨u, hu, rfl⟩ := List.mem_map.mp mem
  exact inAlphabet_of_isUnescaped _ ((isPlain_iff name).mp plain u hu).1

theorem canonicalText_quoted {name : List Half} (plain : isPlain name = true) : CanonicalText (quoted name) (.str name) where
  text := .string _ _ (quoted_strText plain)
  within := quoted_within plain

/-! ## Objects -/

/-- A member in canonical form: its key, the text of its value and the value. -/
structure Entry where
  key : List Half
  text : Bytes
  value : Json

/-- The key is plain, and the text is one of the value. -/
def Entry.Ok (e : Entry) : Prop := isPlain e.key = true ∧ CanonicalText e.text e.value

/-- `"<key>":` and the text of the value. -/
def Entry.member (e : Entry) : Bytes := quoted e.key ++ 0x3A :: e.text

/-- The members of an object behind its first one, and the closing brace. -/
def objectTail (es : List Entry) : Bytes := es.flatMap (fun e => 0x2C :: e.member) ++ [0x7D]

/-- The members an object of entries has. -/
def membersOf (es : List Entry) : Members := es.map fun e => (e.key, e.value)

theorem Entry.Ok.memberText {e : Entry} (h : e.Ok) : MemberText e.member e.key e.value := by
  have text := MemberText.mk _ [] [] _ _ _ (quoted_strText h.1) nofun nofun h.2.text
  rwa [List.append_nil, List.nil_append] at text

theorem Entry.Ok.within {e : Entry} (h : e.Ok) : ∀ b ∈ e.member, inAlphabet b = true :=
  List.forall_mem_append.mpr ⟨quoted_within h.1, List.forall_mem_cons.mpr ⟨by decide, h.2.within⟩⟩

theorem membersText_objectTail {e : Entry} {es : List Entry} (h : ∀ x ∈ e :: es, x.Ok) :
    MembersText (e.member ++ objectTail es) (membersOf (e :: es)) := by
  induction es generalizing e with
  | nil =>
    have last := MembersText.last _ [] _ _ (h e List.mem_cons_self).memberText nofun
    rwa [List.append_nil] at last
  | cons e' es ih =>
    obtain ⟨first, rest⟩ := List.forall_mem_cons.mp h
    have more := MembersText.more _ [] [] _ _ _ _ first.memberText nofun nofun (ih rest)
    simpa [objectTail, membersOf] using more

theorem objectTail_within {es : List Entry} (h : ∀ x ∈ es, x.Ok) : ∀ b ∈ objectTail es, inAlphabet b = true := by
  refine List.forall_mem_append.mpr ⟨fun b mem => ?_, by decide⟩
  obtain ⟨e, he, mem⟩ := List.mem_flatMap.mp mem
  exact List.forall_mem_cons.mpr ⟨by decide, (h e he).within⟩ b mem

/-- The text of an object of entries. -/
def objectText (e : Entry) (es : List Entry) : Bytes := 0x7B :: (e.member ++ objectTail es)

theorem canonicalText_object {e : Entry} {es : List Entry} (h : ∀ x ∈ e :: es, x.Ok) :
    CanonicalText (objectText e es) (.obj (membersOf (e :: es))) where
  text := .object [] _ _ nofun (membersText_objectTail h)
  within := by
    obtain ⟨first, rest⟩ := List.forall_mem_cons.mp h
    exact List.forall_mem_cons.mpr ⟨by decide, List.forall_mem_append.mpr ⟨first.within, objectTail_within rest⟩⟩

theorem parseBody_objectText {e : Entry} {es : List Entry} (h : ∀ x ∈ e :: es, x.Ok) :
    parseBody (objectText e es) = some (membersOf (e :: es)) :=
  (parserAcceptsExactlyTheGrammar _ _).mpr ⟨[], objectText e es, [], by simp, nofun, (canonicalText_object h).text, nofun⟩

/-- With keys that differ each entry is found by its key. -/
theorem lookup_membersOf {es : List Entry} (differ : (es.map Entry.key).Nodup) {e : Entry} (mem : e ∈ es) :
    lookup (membersOf es) e.key = some e.value := by
  induction es with
  | nil => cases mem
  | cons x es ih =>
    rw [List.map_cons, List.nodup_cons] at differ
    rw [membersOf, List.map_cons, lookup_cons]
    rcases List.mem_cons.mp mem with rfl | later
    · have absent : lookup (membersOf es) e.key = none := by
        refine lookup_eq_none_iff.mpr fun m hm same => differ.1 ?_
        obtain ⟨y, hy, rfl⟩ := List.mem_map.mp hm
        exact same ▸ List.mem_map_of_mem hy
      rw [← membersOf, absent, if_pos rfl]
      rfl
    · rw [← membersOf, ih differ.2 later]
      rfl

theorem field_membersOf {α : Type} {es : List Entry} (differ : (es.map Entry.key).Nodup) {e : Entry} (mem : e ∈ es)
    (kind : Json → Except Reason α) : field (membersOf es) e.key kind = kind e.value :=
  field_of_present (lookup_membersOf differ mem)

/-! ## The canonical line of a message -/

/-- A number's entry. -/
def Entry.number (key : List Half) (n : Nat) : Entry := ⟨key, decimal n, .num (decimalTok n)⟩

/-- A list's entry. -/
def Entry.list (key : List Half) (l : List Half) : Entry := ⟨key, 0x5B :: listTail l, .arr (listValues l)⟩

/-- The entry of `cp` hundredths of a percent. -/
def Entry.percent (key : List Half) (cp : Nat) (frac : List Nat) : Entry :=
  ⟨key, Script.percent (cp / 100) frac, .num (percentTok (cp / 100) frac)⟩

/-- The entries of a message's fields after `run_id`, in R207's order. -/
def fieldEntries (c : Control) (frac : List Nat) : List Entry :=
  match c.msg with
  | .sync => [.number keyMtu c.f0.toNat, .number keyCount c.f1.toNat, .number keyWindow c.f2.toNat]
  | .syncAck => []
  | .burst => [.list keySeqs c.list]
  | .report =>
    [.list keyMissing c.list, .number keyReceivedTotal c.f0.toNat, .number keyCrcFail c.f1.toNat,
      .number keyTimeouts c.f2.toNat]
  | .endMsg => []
  | .finalMsg =>
    [.number keyReceived c.f0.toNat, .number keyExpected c.f1.toNat, .percent keyLossPct c.f2.toNat frac,
      .number keyCrcFail c.f3.toNat, .number keyTimeouts c.f4.toNat]

/-- The entry of the message kind. -/
def typeEntry (m : Msg) : Entry := ⟨keyType, quoted m.name, .str m.name⟩

/-- The entries of a message. -/
def messageEntries (c : Control) (frac : List Nat) : List Entry :=
  typeEntry c.msg :: .number keyRunId c.runId.toNat :: fieldEntries c frac

/-- The keys of a message's entries. -/
def messageKeys : Msg → List (List Half)
  | .sync => [keyType, keyRunId, keyMtu, keyCount, keyWindow]
  | .syncAck => [keyType, keyRunId]
  | .burst => [keyType, keyRunId, keySeqs]
  | .report => [keyType, keyRunId, keyMissing, keyReceivedTotal, keyCrcFail, keyTimeouts]
  | .endMsg => [keyType, keyRunId]
  | .finalMsg => [keyType, keyRunId, keyReceived, keyExpected, keyLossPct, keyCrcFail, keyTimeouts]

theorem messageEntries_keys (c : Control) (frac : List Nat) : (messageEntries c frac).map Entry.key = messageKeys c.msg := by
  rw [messageEntries, fieldEntries]
  cases c.msg <;> rfl

theorem messageKeys_nodup (m : Msg) : (messageKeys m).Nodup := by
  cases m <;> decide

theorem messageKeys_plain (m : Msg) : ∀ key ∈ messageKeys m, isPlain key = true := by
  cases m <;> decide

theorem name_plain (m : Msg) : isPlain m.name = true := by
  cases m <;> decide

theorem canonicalLine_eq (c : Control) (frac : List Nat) :
    canonicalLine c frac = objectText (typeEntry c.msg) (.number keyRunId c.runId.toNat :: fieldEntries c frac) ++ [lf] := by
  rw [canonicalLine, objectText, objectTail, canonicalFields, fieldEntries]
  cases c.msg <;> simp [typeEntry, Entry.member, Entry.number, Entry.list, Entry.percent, member]

section
variable {listMax : Nat} {c : Control} {frac : List Nat}

/-- The text of each entry is one of its value. -/
theorem messageEntries_text (fraction : c.msg = .finalMsg → isFraction c.f2.toNat frac) :
    ∀ e ∈ messageEntries c frac, CanonicalText e.text e.value := by
  have number (key n) : CanonicalText (Entry.number key n).text (Entry.number key n).value := canonicalText_decimal n
  have list (key l) : CanonicalText (Entry.list key l).text (Entry.list key l).value := canonicalText_list l
  refine List.forall_mem_cons.mpr ⟨canonicalText_quoted (name_plain c.msg), List.forall_mem_cons.mpr ⟨number _ _, ?_⟩⟩
  unfold fieldEntries
  cases msg : c.msg with
  | sync => simp [number]
  | syncAck => simp
  | burst => simp [list]
  | report => simp [number, list]
  | endMsg => simp
  | finalMsg =>
    have percent : CanonicalText (Entry.percent keyLossPct c.f2.toNat frac).text
        (Entry.percent keyLossPct c.f2.toNat frac).value := canonicalText_percent (fraction msg) _
    simp [number, percent]

theorem messageEntries_ok (fraction : c.msg = .finalMsg → isFraction c.f2.toNat frac) : ∀ e ∈ messageEntries c frac, e.Ok :=
  fun e mem => ⟨messageKeys_plain c.msg e.key (messageEntries_keys c frac ▸ List.mem_map_of_mem mem),
    messageEntries_text fraction e mem⟩

theorem msgOf_messageEntries : msgOf (membersOf (messageEntries c frac)) = .ok c.msg := by
  have differ := (messageEntries_keys c frac).symm ▸ messageKeys_nodup c.msg
  exact (msgOf_eq_ok_iff (lookup_membersOf differ (e := typeEntry c.msg) List.mem_cons_self)).mpr rfl

section
variable {key : List Half} {e : Entry}

theorem field_messageEntries {α : Type} (mem : e ∈ messageEntries c frac) (kind : Json → Except Reason α) :
    field (membersOf (messageEntries c frac)) e.key kind = kind e.value :=
  field_membersOf ((messageEntries_keys c frac).symm ▸ messageKeys_nodup c.msg) mem kind

theorem field_u16 {x : Half} (mem : .number key x.toNat ∈ messageEntries c frac) :
    field (membersOf (messageEntries c frac)) key kindU16 = .ok x :=
  (field_messageEntries mem kindU16).trans (kindU16_decimal x)

theorem field_u16_slot {x : Word} (le : x.toNat ≤ 65535) (mem : .number key x.toNat ∈ messageEntries c frac) :
    field (membersOf (messageEntries c frac)) key kindU16 = .ok (x.setWidth 16) :=
  (field_messageEntries mem kindU16).trans (kindU16_decimal_slot le).1

theorem field_u32 {x : Word} (mem : .number key x.toNat ∈ messageEntries c frac) :
    field (membersOf (messageEntries c frac)) key kindU32 = .ok x :=
  (field_messageEntries mem kindU32).trans (kindU32_decimal x)

theorem field_list16 {l : List Half} (le : l.length ≤ listMax) (mem : .list key l ∈ messageEntries c frac) :
    field (membersOf (messageEntries c frac)) key (kindList16 listMax) = .ok l :=
  (field_messageEntries mem _).trans (kindList16_list le)

theorem field_pct {x : Word} (fraction : isFraction x.toNat frac) (mem : .percent key x.toNat frac ∈ messageEntries c frac) :
    field (membersOf (messageEntries c frac)) key kindPct = .ok x :=
  (field_messageEntries mem kindPct).trans (kindPct_percent fraction)

end

/-- The fields of a message are read back from its entries. -/
theorem parseFields_messageEntries (message : isMessage listMax c) (fraction : c.msg = .finalMsg → isFraction c.f2.toNat frac) :
    parseFields listMax c.msg (membersOf (messageEntries c frac)) = .ok c := by
  obtain ⟨-, -, -, perKind⟩ := messageRecognition
  obtain ⟨-, -, -, accepted⟩ := perKind listMax (membersOf (messageEntries c frac))
  refine (accepted c.msg c).mpr ⟨c.runId, field_u16 (by simp [messageEntries]), ?_⟩
  obtain ⟨msg, runId, f0, f1, f2, f3, f4, list⟩ := c
  cases msg with
  | sync =>
    obtain ⟨le₀, le₁, le₂, rfl, rfl, rfl⟩ := message
    refine ⟨_, _, _, field_u16_slot le₀ ?_, field_u16_slot le₁ ?_, field_u16_slot le₂ ?_, ?_⟩
    case refine_4 =>
      rw [(kindU16_decimal_slot le₀).2, (kindU16_decimal_slot le₁).2, (kindU16_decimal_slot le₂).2]
    all_goals simp [messageEntries, fieldEntries]
  | syncAck =>
    obtain ⟨rfl, rfl, rfl, rfl, rfl, rfl⟩ := message
    rfl
  | burst =>
    obtain ⟨rfl, rfl, rfl, rfl, rfl, count⟩ := message
    exact ⟨list, field_list16 count (by simp [messageEntries, fieldEntries]), rfl⟩
  | report =>
    obtain ⟨rfl, rfl, count⟩ := message
    refine ⟨list, f0, f1, f2, field_list16 count ?_, field_u32 ?_, field_u32 ?_, field_u32 ?_, rfl⟩
    all_goals simp [messageEntries, fieldEntries]
  | endMsg =>
    obtain ⟨rfl, rfl, rfl, rfl, rfl, rfl⟩ := message
    rfl
  | finalMsg =>
    obtain rfl : list = [] := message
    refine ⟨f0, f1, f2, f3, f4, field_u32 ?_, field_u32 ?_, field_pct (fraction rfl) ?_, field_u32 ?_, field_u32 ?_, rfl⟩
    all_goals simp [messageEntries, fieldEntries]

end

/-- Settles O23: the body of a canonical line is the text of an object with the message's entries. -/
theorem canonicalLinesParse : Obligations.CanonicalLinesParse := by
  intro listMax c frac message fraction
  have entries := messageEntries_ok fraction
  exact parseLine_eq_ok_iff.mpr ⟨_, _, c.msg, canonicalLine_eq c frac, (canonicalText_object entries).within,
    parseBody_objectText entries, msgOf_messageEntries, parseFields_messageEntries message fraction⟩

end Sys2Proof.Machine

end
